-- ==== Sys2Proof/Word.lean ====
section
/-! DEFINITION. The words of the block: every value is an unsigned bit vector of a stated width (R6).
There is no arithmetic on them anywhere in the block, only masks, comparisons, fields and concatenation. -/

namespace Sys2Proof

/-- An 8-bit value: a controller register, an operand, a received byte, a latched status (R5, R6). -/
abbrev Byte := BitVec 8

/-- A 16-bit request word `opc ++ opd` (R60) or response word `code ++ data` (R64). -/
abbrev Word16 := BitVec 16

/-- An address of the register space: a byte offset from `TWI_BASE`, added to it (R41). The spec gives addresses no
width, so they are numbers and do not wrap. -/
abbrev Address := Nat

end Sys2Proof
end

