-- ==== Sys2Proof/Machine/Operands.lean ====
section
/-! DEFINITION. The fields of the block's words: request (R60), response (R64), address+direction byte (R62),
command byte (R65). -/

namespace Sys2Proof

/-- `opc`, bits 15:8 of a request word (R60). -/
def opcOf (w : Word16) : Byte := w.extractLsb' 8 8

/-- `opd`, bits 7:0 of a request word (R60). -/
def opdOf (w : Word16) : Byte := w.extractLsb' 0 8

/-- A request word from its two fields (R60). -/
def reqWord (opc opd : Byte) : Word16 := opc ++ opd

/-- `code`, bits 15:8 of a response word (R64). -/
def rspCode (w : Word16) : Byte := w.extractLsb' 8 8

/-- `data`, bits 7:0 of a response word (R64). -/
def rspData (w : Word16) : Byte := w.extractLsb' 0 8

/-- A response word from its two fields (R64, R128). -/
def rspWord (code data : Byte) : Word16 := code ++ data

/-- Response code `OK` (R64). -/
def codeOk : Byte := 0x00

/-- Response code `NOT_ACCESSIBLE` (R64). -/
def codeNotAccessible : Byte := 0x01

/-- Response code `NOT_ACKNOWLEDGED` (R64). -/
def codeNotAcknowledged : Byte := 0x02

/-- `a[7:1]`, the slave address of an address+direction byte (R62). -/
def sla7Of (a : Byte) : BitVec 7 := a.extractLsb' 1 7

/-- `a[0]`, the direction bit of an address+direction byte: `true` is 1, read (R62). -/
def dirBit (a : Byte) : Bool := a[0]

/-- An address+direction byte, `sla7 ++ dir` (R62). -/
def addrByte (sla7 : BitVec 7) (dir : Bool) : Byte := sla7 ++ BitVec.ofBool dir

/-- Command `FLUSH` (R65). -/
def cmdFlushByte : Byte := 0x08

/-- Command `STOP` (R65). -/
def cmdStopByte : Byte := 0x03

/-- Command `RECV_ACK` (R65). -/
def cmdRecvAckByte : Byte := 0x02

/-- Command `RECV_NAK` (R65). -/
def cmdRecvNakByte : Byte := 0x06

/-- The flush strobe, bit 3 of a command byte (R65). -/
def cmdFlushBit (v : Byte) : Bool := v[3]

/-- The acknowledge action, bit 2 of a command byte: `false` sends ACK, `true` NAK (R65). -/
def cmdAckAction (v : Byte) : Bool := v[2]

/-- The bus command, bits 1:0 of a command byte: `0b10` continue receiving, `0b11` stop (R65). -/
def cmdBusCommand (v : Byte) : BitVec 2 := v.extractLsb' 0 2

/-- The opcodes of R61. -/
def opcInit : Byte := 0x00
def opcStart : Byte := 0x01
def opcRepeatedStart : Byte := 0x02
def opcStartWithRetry : Byte := 0x03
def opcStop : Byte := 0x04
def opcWriteByte : Byte := 0x05
def opcReadByteAck : Byte := 0x06
def opcReadByteNak : Byte := 0x07

/-- `CTRL_INIT` (R69). -/
def ctrlInit : Byte := 0x01

/-- `STATUS_INIT` (R69). -/
def statusInit : Byte := 0x01

end Sys2Proof
end

