-- ==== Sys2Proof/Syntax.lean ====
section
/-! DEFINITION. The instructions: one constructor for each row of `spec/opcode_table.json`, the eight
operations of format `REQ` (R61) and the four commands of format `CMD8` (R65); the code words they are
written as; and the assembler lines of R68. -/

namespace Sys2Proof

/-- The instructions of both formats. An operand is a whole byte: all 256 values are valid (R62). -/
inductive Instr where
  /-- `init` (R130). -/
  | init
  /-- `start a` (R135). -/
  | start (a : Byte)
  /-- `repeatedStart a` (R136). -/
  | repeatedStart (a : Byte)
  /-- `startWithRetry a` (R137). -/
  | startWithRetry (a : Byte)
  /-- `stop` (R145). -/
  | stop
  /-- `writeByte d` (R150). -/
  | writeByte (d : Byte)
  /-- `readByteAck` (R155). -/
  | readByteAck
  /-- `readByteNak` (R156). -/
  | readByteNak
  /-- Command `FLUSH` (R90). -/
  | cmdFlush
  /-- Command `STOP` (R91). -/
  | cmdStop
  /-- Command `RECV_ACK` (R92). -/
  | cmdRecvAck
  /-- Command `RECV_NAK` (R93). -/
  | cmdRecvNak
deriving DecidableEq, Repr

/-- A code word of one of the two instruction formats: a request `HOST` gives `SEQ` (`REQ`, R60) or the byte
`SEQ` writes to the command register (`CMD8`, R65). The two never meet in one place, so a word carries its format. -/
inductive CodeWord where
  | req (w : Word16)
  | cmd (v : Byte)
deriving DecidableEq, Repr

/-- A `<byte>` operand of R68 as written in a program: a literal, or one of the two pseudo-forms. -/
inductive AsmOperand where
  /-- A literal, legal from `0x00` to `0xFF`. -/
  | literal (n : Nat)
  /-- `W(sla7)`: write direction, legal for `sla7` from `0x00` to `0x7F`. -/
  | writeTo (sla7 : Nat)
  /-- `R(sla7)`: read direction, same range. -/
  | readFrom (sla7 : Nat)
deriving DecidableEq, Repr

/-- One line of a program in the syntax of R68: an operation and, where it takes one, its operand. -/
inductive AsmLine where
  | init
  | start (o : AsmOperand)
  | repeatedStart (o : AsmOperand)
  | startWithRetry (o : AsmOperand)
  | stop
  | writeByte (o : AsmOperand)
  | readByteAck
  | readByteNak
deriving DecidableEq, Repr

end Sys2Proof
end

