-- ==== Sys2Proof/WellFormed.lean ====
section
/-! DEFINITION. What the block admits: request words and command bytes that are not reserved (R63, R66) and
assembler operands in range (R68). An `Instr` needs no check of its own: its operands are bytes and every byte is a
valid operand (R62), so each term of the type is an instruction of the table. -/

namespace Sys2Proof

/-- R63: `opc >= 0x08`, or an operation without an operand whose `opd` is not zero. -/
def reservedRequest (w : Word16) : Bool :=
  decide (8 ≤ (opcOf w).toNat) ||
    (decide (opcOf w = opcInit ∨ opcOf w = opcStop ∨ opcOf w = opcReadByteAck ∨ opcOf w = opcReadByteNak) &&
      decide (opdOf w ≠ 0))

/-- R66: every command byte but the four of R65, `0x00` included. -/
def reservedCommand (v : Byte) : Bool :=
  !(v == cmdFlushByte || v == cmdStopByte || v == cmdRecvAckByte || v == cmdRecvNakByte)

/-- A code word the block admits. -/
def CodeWord.wf : CodeWord → Bool
  | .req w => !reservedRequest w
  | .cmd v => !reservedCommand v

/-- An operand in the range R68 gives its form. -/
def AsmOperand.wf : AsmOperand → Bool
  | .literal n => decide (n < 256)
  | .writeTo sla7 => decide (sla7 < 128)
  | .readFrom sla7 => decide (sla7 < 128)

/-- An assembler line whose operand, where it has one, is in range. -/
def AsmLine.wf : AsmLine → Bool
  | .init => true
  | .start o => o.wf
  | .repeatedStart o => o.wf
  | .startWithRetry o => o.wf
  | .stop => true
  | .writeByte o => o.wf
  | .readByteAck => true
  | .readByteNak => true

end Sys2Proof
end

