-- ==== Sys2Proof/Decode.lean ====
section
/-! DEFINITION. The decoder, from the match and mask columns of R61 and the values of R65, total and rejecting by
name; after it the encoder, and the assembler of R68. -/

namespace Sys2Proof

/-- Why a word is no instruction. -/
inductive DecodeError where
  /-- A request with `opc >= 0x08` (R63). -/
  | reservedOpcode
  /-- A request of an operation without an operand whose operand byte is not zero (R63). -/
  | operandNotZero
  /-- A command byte that is none of the four (R66). -/
  | reservedCommand
deriving DecidableEq, Repr

/-- One row of the opcode map R61: `w` is this operation when `w and mask = mtch`. -/
structure ReqRow where
  mtch : Word16
  mask : Word16
  build : Byte → Instr

/-- The opcode map of R61, in its order. -/
def reqRows : List ReqRow :=
  [ ⟨0x0000, 0xFFFF, fun _ => .init⟩,
    ⟨0x0100, 0xFF00, fun a => .start a⟩,
    ⟨0x0200, 0xFF00, fun a => .repeatedStart a⟩,
    ⟨0x0300, 0xFF00, fun a => .startWithRetry a⟩,
    ⟨0x0400, 0xFFFF, fun _ => .stop⟩,
    ⟨0x0500, 0xFF00, fun d => .writeByte d⟩,
    ⟨0x0600, 0xFFFF, fun _ => .readByteAck⟩,
    ⟨0x0700, 0xFFFF, fun _ => .readByteNak⟩ ]

/-- `w` matches the row (R61). -/
def ReqRow.matches (r : ReqRow) (w : Word16) : Bool := w &&& r.mask == r.mtch

/-- Decoding a request word: compare `w and mask` with `match` for each row (R61); no row, a named rejection (R63). -/
def decodeReq (w : Word16) : Except DecodeError Instr :=
  match reqRows.find? (·.matches w) with
  | some r => .ok (r.build (opdOf w))
  | none => if 8 ≤ (opcOf w).toNat then .error .reservedOpcode else .error .operandNotZero

/-- Decoding a command byte: only the four whole values are legal (R65, R66). -/
def decodeCmd (v : Byte) : Except DecodeError Instr :=
  if v = 0x08 then .ok .cmdFlush
  else if v = 0x03 then .ok .cmdStop
  else if v = 0x02 then .ok .cmdRecvAck
  else if v = 0x06 then .ok .cmdRecvNak
  else .error .reservedCommand

/-- Decoding a word of either format. -/
def decode : CodeWord → Except DecodeError Instr
  | .req w => decodeReq w
  | .cmd v => decodeCmd v

/-- The words of an instruction: `opc ++ opd` (R60, R61) or the command byte (R65). -/
def encode : Instr → CodeWord
  | .init => .req (reqWord opcInit 0)
  | .start a => .req (reqWord opcStart a)
  | .repeatedStart a => .req (reqWord opcRepeatedStart a)
  | .startWithRetry a => .req (reqWord opcStartWithRetry a)
  | .stop => .req (reqWord opcStop 0)
  | .writeByte d => .req (reqWord opcWriteByte d)
  | .readByteAck => .req (reqWord opcReadByteAck 0)
  | .readByteNak => .req (reqWord opcReadByteNak 0)
  | .cmdFlush => .cmd cmdFlushByte
  | .cmdStop => .cmd cmdStopByte
  | .cmdRecvAck => .cmd cmdRecvAckByte
  | .cmdRecvNak => .cmd cmdRecvNakByte

/-- The byte an assembler operand stands for: a literal, or `sla7 ++ 0`, `sla7 ++ 1` (R68, R62). -/
def AsmOperand.byte : AsmOperand → Byte
  | .literal n => BitVec.ofNat 8 n
  | .writeTo sla7 => addrByte (BitVec.ofNat 7 sla7) false
  | .readFrom sla7 => addrByte (BitVec.ofNat 7 sla7) true

/-- The operation an assembler line names (R68). -/
def AsmLine.instr : AsmLine → Instr
  | .init => .init
  | .start o => .start o.byte
  | .repeatedStart o => .repeatedStart o.byte
  | .startWithRetry o => .startWithRetry o.byte
  | .stop => .stop
  | .writeByte o => .writeByte o.byte
  | .readByteAck => .readByteAck
  | .readByteNak => .readByteNak

/-- "A line assembles to the request word of rule R61" (R68); a line with an operand out of range is no line. -/
def assemble (l : AsmLine) : Option Word16 :=
  if l.wf then
    match encode l.instr with
    | .req w => some w
    | .cmd _ => none
  else none

/-- The words of a program, a list of lines (R68); `HOST` presents them in this order. -/
def assembleProgram : List AsmLine → Option (List Word16)
  | [] => some []
  | l :: ls =>
    match assemble l, assembleProgram ls with
    | some w, some ws => some (w :: ws)
    | _, _ => none

/-- The host's numbering: a `REQ` row has 16 bits, a `CMD8` row 8; each is one word, bit 0 its least significant bit. -/
def decodeTableWord (nbits w : Nat) : Option Instr :=
  if nbits = 16 ∧ w < 65536 then (decodeReq (BitVec.ofNat 16 w)).toOption
  else if nbits = 8 ∧ w < 256 then (decodeCmd (BitVec.ofNat 8 w)).toOption
  else none

end Sys2Proof
end

