-- ==== Sys2Proof/Config.lean ====
section
/-! DEFINITION. What is fixed for one block (the `OPEN` parameters of R5, R26) and what nothing fixes
(the moves and draws of `HOST` and `ENV`, R7, R110, R120). Every constant here is opaque: no proof can
see its value, so a claim holds whatever it is. -/

namespace Sys2Proof

/-- `PhaseAnswer` of R110: the bus's answer to an address byte or a data byte sent. -/
inductive PhaseAnswer where
  | ack | nak | arbLost | busErr
deriving DecidableEq, Repr, Inhabited

/-- `RxAnswer` of R110: the bus's answer to a request for one received byte. -/
inductive RxAnswer where
  | byte (d : Byte) | arbLost | busErr
deriving DecidableEq, Repr, Inhabited

/-- `IdleOrBusy` of R110: what `BUSSTATE` becomes after a bus error (R116). -/
inductive IdleOrBusy where
  | idle | busy
deriving DecidableEq, Repr, Inhabited

/-- One `draw` of the engine (R110, R116), as a script of the environment lists them (R120). -/
inductive Draw where
  | answer (a : PhaseAnswer)
  | rx (x : RxAnswer)
  | bit (b : Bool)
  | idleOrBusy (x : IdleOrBusy)
deriving DecidableEq, Repr

/-- Every value one engine step can draw (R110, R116); a step uses the ones its case asks for.
`rxack` is the `Bit` of R116, `true` for 1. -/
structure Draws where
  ans : PhaseAnswer
  rx : RxAnswer
  rxack : Bool
  busAfterErr : IdleOrBusy
deriving DecidableEq, Repr, Inhabited

/-- One turn of the interleaving of R2: which agent moves next, with everything the environment chooses
in that move. A turn is plain data, so a schedule can be written out and a state that holds one compared. -/
inductive Move where
  /-- `HOST` presents the request word `w` (R125). -/
  | host (w : Word16)
  /-- `SEQ` takes the step its micro-PC labels (R126). -/
  | seq
  /-- `CTL`'s engine takes a step and the bus answers with `d` (R110). -/
  | engine (d : Draws)
  /-- `ENV` step `E-FREE` (R117). -/
  | envFree
  /-- `ENV` step `E-TAKE` (R118). -/
  | envTake
  /-- The platform's reset event (R180). -/
  | reset
deriving DecidableEq, Repr, Inhabited

/-- `TWI_BASE`, the address of offset 0 of the register block: `OPEN` (R5; its default 0x0810 is not used). -/
opaque Config.twiBase : Address

/-- `BAUD_DIV`, the byte `init` writes to `BAUD`: `OPEN`, any value (R5). -/
opaque Config.baudDiv : Byte

/-- `F_HOST`, the host clock frequency: `OPEN`, read by no rule (R5). -/
opaque Config.fHost : Nat

/-- `F_BUS`, the target bus clock rate: `OPEN`, read by no rule (R5). -/
opaque Config.fBus : Nat

/-- FREE VALUE (log entry 2): the turn taken when the schedule held in the state is used up.
The default of R120: any agent, any answer, any request. -/
opaque Config.freeMove : Nat → Move

/-- FREE VALUE (log entry 3): the `draw Byte` of R87 and R94, what a read of `ADDR` or `CMD` returns. -/
opaque Config.freeByte : Nat → Byte

end Sys2Proof
end

