-- ==== Sys2Proof/Machine/State.lean ====
section
/-! DEFINITION. The state of the block as plain data: the controller `CTL` (R10 to R18), the sequencer `SEQ`
(R19 to R21), the two observation logs (R23), and the schedule of turns that stands for the agents `HOST` and `ENV`
(R2, R26; the model's own). The block has no memory and no register file (R19, R40). -/

namespace Sys2Proof.Machine

/-- The six registers of the register space (R10, R41). -/
inductive Reg where
  | ctrl | cmd | status | baud | addr | data
deriving DecidableEq, Repr

/-- `BUSSTATE`, the bus-state field (R13). -/
inductive BusState where
  | unknown | idle | owner | busy
deriving DecidableEq, Repr

/-- `CTL.dir`, the direction of the open transaction (R18). -/
inductive Dir where
  /-- 0: the master transmits. -/
  | write
  /-- 1: the master receives. -/
  | read
deriving DecidableEq, Repr

/-- `CTL.phase`, the bus phase asked for and not yet performed (R18). -/
inductive Phase where
  | none
  | addr (a : Byte)
  | tx (d : Byte)
  | rx
  | stop
deriving DecidableEq, Repr

/-- The labels of the micro-PC (R21). -/
inductive MicroPc where
  | ready
  | i0 | i1 | i2 | i3
  | s0 | s1 | s2 | s3
  | w4
  | p0 | p1 | p2
  | x0 | x1 | x2
  | a0 | a1 | a2 | a3
deriving DecidableEq, Repr

/-- One entry of `reg_log` (R23): a register access by `SEQ` and the value moved. -/
inductive RegEntry where
  | w (r : Reg) (v : Byte)
  | r (r : Reg) (v : Byte)
deriving DecidableEq, Repr

/-- One event of `bus_log` (R23, R110). -/
inductive BusEvent where
  | start | repStart
  | addrByte (a : Byte) | txData (d : Byte) | rxData (d : Byte)
  | ackIn | nakIn | ackOut | nakOut
  | stop | arbLostEv | busErrEv
deriving DecidableEq, Repr

/-- Everything the spec gives the block, one field each; and, last, the model's own inputs. -/
structure State where
  /-- `CTRL[7]` (R11). -/
  rien : Bool
  /-- `CTRL[6]` (R11). -/
  wien : Bool
  /-- `CTRL[0]` (R11). -/
  enable : Bool
  /-- `STATUS[7]` (R12). -/
  rif : Bool
  /-- `STATUS[6]` (R12). -/
  wif : Bool
  /-- `STATUS[4]` (R12): 0 is ACK, 1 is NAK. -/
  rxack : Bool
  /-- `STATUS[3]` (R12). -/
  arblost : Bool
  /-- `STATUS[2]` (R12). -/
  buserr : Bool
  /-- `STATUS[1:0]` (R13). -/
  busState : BusState
  /-- `BAUD` (R17). -/
  baud : Byte
  /-- `ADDR` (R15). -/
  addr : Byte
  /-- `DATA` (R16). -/
  data : Byte
  /-- `CTL.phase` (R18). -/
  phase : Phase
  /-- `CTL.dir` (R18). -/
  dir : Dir
  /-- `SEQ.pc` (R21). -/
  pc : MicroPc
  /-- `SEQ.op` (R19). -/
  op : Byte
  /-- `SEQ.arg` (R19). -/
  arg : Byte
  /-- `SEQ.st` (R19). -/
  st : Byte
  /-- `SEQ.rdata` (R19). -/
  rdata : Byte
  /-- `SEQ.rsp` (R19): the spec's own option, `none` while no response stands. -/
  rsp : Option Word16
  /-- `reg_log` (R23), oldest first. -/
  regLog : List RegEntry
  /-- `bus_log` (R23), oldest first. -/
  busLog : List BusEvent
  /-- MODEL'S OWN (log entry 1): the turns `HOST`, `SEQ`, `CTL`, `ENV` and the platform take next, soonest first. -/
  moves : List Move
  /-- MODEL'S OWN (log entries 2 and 3): how many free values have been used. -/
  drawCount : Nat
deriving DecidableEq, Repr

/-- Why the machine stops with a fault. -/
inductive Fault where
  /-- R162: a `DATA` write, `STOP`, `RECV_ACK` or `RECV_NAK` while enabled and outside its condition of R95. Raised by
  the register write, so by the commands `STOP`, `RECV_ACK`, `RECV_NAK` and by step `X0` of `writeByte`, `P0` of `stop`,
  `A2` of `readByteAck` and `readByteNak`. Safe: the source calls the hardware's effect undefined. -/
  | undefinedSequence
deriving DecidableEq, Repr

/-- Why the model gives an input no meaning. -/
inductive Refusal where
  /-- An instruction whose meaning is not written. Raised by `exec`'s arm alone; no arm raises it now. Safe. -/
  | notModelled (mnemonic : String)
  /-- R63: `HOST` presents a reserved request word. Raised by `HOST`'s turn. Safe. -/
  | reservedRequest (w : Word16)
  /-- R96: a write of `CMD` with a reserved value. Raised by the register write; no operation writes one. Safe. -/
  | reservedCommand (v : Byte)
  /-- R41, R42: an access to an address that is no register. Raised by `memRead` and `memWrite`; no operation makes
  one. Safe. -/
  | noRegister (a : Address)
  /-- R42: an access of a width other than one byte. Raised by `memRead` and `memWrite`; no operation makes one. Safe. -/
  | accessWidth (size : Nat)
  /-- R125, U5: a request while another operation runs, a move `HOST` never makes. Raised by `HOST`'s turn and by the
  operations. Safe. -/
  | hostNotReady
  /-- R21: the micro-PC stands at a label of another operation than the one `SEQ.op` names. Raised by the
  micro-programs, in states no run reaches. Safe. -/
  | foreignLabel
deriving DecidableEq, Repr

/-- What a step answers. -/
abbrev Result := Host.Outcome State Fault Refusal

/-- The state after reset (R25). `SEQ.op`, `SEQ.arg`, `SEQ.st` and `SEQ.rdata` are unspecified there: zero is the log's
choice (entry 5). No turn is scheduled (log entry 1). -/
def State.reset : State where
  rien := false
  wien := false
  enable := false
  rif := false
  wif := false
  rxack := false
  arblost := false
  buserr := false
  busState := .unknown
  baud := 0x00
  addr := 0x00
  data := 0x00
  phase := .none
  dir := .write
  pc := .ready
  op := 0x00
  arg := 0x00
  st := 0x00
  rdata := 0x00
  rsp := none
  regLog := []
  busLog := []
  moves := []
  drawCount := 0

end Sys2Proof.Machine
end

