-- ==== Sys2Proof/Machine/Flags.lean ====
section
/-! DEFINITION. The status register as a byte (R83), the masks the sequencer tests it with (R67, R127), the interrupt
output (R24) and the conditions of the data window (R95). -/

namespace Sys2Proof.Machine

/-- The encoding of `BUSSTATE` (R13). -/
def BusState.bits : BusState → BitVec 2
  | .unknown => 0b00
  | .idle => 0b01
  | .owner => 0b10
  | .busy => 0b11

/-- `CTL.dir` from bit 0 of the address byte (R18, R111). -/
def Dir.ofByte (a : Byte) : Dir := if dirBit a then .read else .write

/-- `RIF ++ WIF ++ 0 ++ RXACK ++ ARBLOST ++ BUSERR ++ BUSSTATE[1:0]` (R83). -/
def State.statusByte (s : State) : Byte :=
  BitVec.ofBool s.rif ++ BitVec.ofBool s.wif ++ (0#1) ++ BitVec.ofBool s.rxack ++
    BitVec.ofBool s.arblost ++ BitVec.ofBool s.buserr ++ s.busState.bits

/-- `CTL.RIEN ++ CTL.WIEN ++ 0b00000 ++ CTL.ENABLE` (R82). -/
def State.ctrlByte (s : State) : Byte :=
  BitVec.ofBool s.rien ++ BitVec.ofBool s.wien ++ (0#5) ++ BitVec.ofBool s.enable

/-- `M_RIF` (R67). -/
def maskRif : Byte := 0x80
/-- `M_WIF` (R67). -/
def maskWif : Byte := 0x40
/-- `M_ANYIF` (R67). -/
def maskAnyIf : Byte := 0xC0
/-- `M_RXACK` (R67). -/
def maskRxack : Byte := 0x10
/-- `M_ARBLOST` (R67). -/
def maskArbLost : Byte := 0x08
/-- `M_BUSERR` (R67). -/
def maskBusErr : Byte := 0x04
/-- `M_ERR` (R67). -/
def maskErr : Byte := 0x0C
/-- `M_BUSSTATE` (R67). -/
def maskBusState : Byte := 0x03
/-- `BS_IDLE` (R67). -/
def bsIdle : Byte := 0x01

/-- `AnyIF` (R127). -/
def anyIf (st : Byte) : Bool := (st &&& maskAnyIf) != 0
/-- `WIFset` (R127). -/
def wifSet (st : Byte) : Bool := (st &&& maskWif) != 0
/-- `RIFset` (R127). -/
def rifSet (st : Byte) : Bool := (st &&& maskRif) != 0
/-- `IsIdle` (R127). -/
def isIdle (st : Byte) : Bool := (st &&& maskBusState) == bsIdle
/-- `ARBLOST` or `BUSERR` is set in a latched status (R135, step S3). -/
def errSet (st : Byte) : Bool := (st &&& maskErr) != 0
/-- `RXACK` is set in a latched status (R135, step S3; R150, step X2). -/
def nakSet (st : Byte) : Bool := (st &&& maskRxack) != 0

/-- The interrupt request output (R24). -/
def State.irq (s : State) : Bool := s.enable && ((s.rien && s.rif) || (s.wien && s.wif))

/-- `InWindow` (R95). -/
def State.inWindow (s : State) : Bool := s.enable && s.busState == .owner && s.phase == .none

/-- When a `DATA` write is valid (R95). -/
def State.canTransmit (s : State) : Bool := s.inWindow && s.dir == .write

/-- When command `STOP` is valid (R95). -/
def State.canStop (s : State) : Bool := s.inWindow

/-- When commands `RECV_ACK` and `RECV_NAK` are valid (R95). -/
def State.canReceive (s : State) : Bool := s.inWindow && s.dir == .read && s.rif

end Sys2Proof.Machine
end

