-- ==== Sys2Proof/Machine/Ops.lean ====
section
/-! DEFINITION. The shared operations: what each register access does to the controller (R80 to R96), the accesses
`SEQ` makes (R7, R41, R42, R49), and the parts every micro-program is built from (R125 to R128). The block takes no
exceptions (R160, R165): an error result is an ordinary `respond`. -/

namespace Sys2Proof.Machine

/-! ## Small updates -/

/-- `pc <- L` (R7). -/
def State.goto (s : State) (l : MicroPc) : State := { s with pc := l }

/-- Append an access to `reg_log` (R49). -/
def State.logReg (s : State) (e : RegEntry) : State := { s with regLog := s.regLog ++ [e] }

/-- `emit e` (R7). -/
def State.emit (s : State) (e : BusEvent) : State := { s with busLog := s.busLog ++ [e] }

/-- `CTL.RIF <- 0; CTL.WIF <- 0` (R86, R88, R90 to R93). -/
def State.clearIf (s : State) : State := { s with rif := false, wif := false }

/-- `CTL.ARBLOST <- 0; CTL.BUSERR <- 0` (R86, R90). -/
def State.clearErr (s : State) : State := { s with arblost := false, buserr := false }

/-- `CTL.phase <- p` (R18). -/
def State.post (s : State) (p : Phase) : State := { s with phase := p }

/-- `SEQ.st <- v` (R127). -/
def State.latchSt (s : State) (v : Byte) : State := { s with st := v }

/-- `SEQ.rdata <- v` (R155, step A1). -/
def State.latchRdata (s : State) (v : Byte) : State := { s with rdata := v }

/-- One free value has been used (log entries 2 and 3). -/
def State.useDraw (s : State) : State := { s with drawCount := s.drawCount + 1 }

/-- `respond(code, data)` (R128). -/
def State.respond (s : State) (code data : Byte) : State :=
  { s with rsp := some (rspWord code data), pc := .ready }

/-- Accepting a request (R125): `l` is the operation's entry label. -/
def State.accept (s : State) (opc opd : Byte) (l : MicroPc) : State :=
  { s with op := opc, arg := opd, rsp := none, pc := l }

/-- What follows a step part that may stop. -/
def andThen (o : Result) (f : State → Result) : Result :=
  match o with
  | .next s => f s
  | .fault r => .fault r
  | .refused r => .refused r

/-! ## Register writes -/

/-- Write of `CTRL` (R81). -/
def writeCtrl (v : Byte) (s : State) : State :=
  if v[0] then
    { s with rien := v[7], wien := v[6], enable := true }
  else
    { s with
      rien := v[7], wien := v[6], enable := false, phase := .none,
      rif := false, wif := false, rxack := false, arblost := false, buserr := false, busState := .unknown }

/-- Write of `STATUS`: flags cleared by writing one, `v[1:0] = 0b01` forces idle (R84). -/
def writeStatus (v : Byte) (s : State) : State :=
  { s with
    rif := s.rif && !v[7]
    wif := s.wif && !v[6]
    arblost := s.arblost && !v[3]
    buserr := s.buserr && !v[2]
    busState := if v.extractLsb' 0 2 = 0b01#2 then .idle else s.busState
    phase := if v.extractLsb' 0 2 = 0b01#2 then .none else s.phase }

/-- Write of `BAUD` (R85). -/
def writeBaud (v : Byte) (s : State) : State := { s with baud := v }

/-- Write of `ADDR`: stored, and while enabled an address phase is posted (R86). -/
def writeAddr (a : Byte) (s : State) : State :=
  if s.enable then { s with addr := a }.clearIf.clearErr.post (.addr a) else { s with addr := a }

/-- Write of `DATA`: stored, and inside the data window a transmit phase is posted (R88). -/
def writeData (d : Byte) (s : State) : Result :=
  if !s.enable then .next { s with data := d }
  else if s.canTransmit then .next ({ s with data := d }.clearIf.post (.tx d))
  else .fault .undefinedSequence

/-- Command `FLUSH` (R90). -/
def flushCommand (s : State) : State :=
  if s.enable then s.clearIf.clearErr.post .none else s

/-- Command `STOP` (R91). -/
def stopCommand (s : State) : Result :=
  if !s.enable then .next s
  else if s.canStop then .next (s.clearIf.post .stop)
  else .fault .undefinedSequence

/-- Command `RECV_ACK` (R92): the acknowledge bit goes out now, the next byte is asked for. -/
def recvAckCommand (s : State) : Result :=
  if !s.enable then .next s
  else if s.canReceive then .next ((s.clearIf.emit .ackOut).post .rx)
  else .fault .undefinedSequence

/-- Command `RECV_NAK` (R93): the acknowledge bit goes out now, nothing more is received. -/
def recvNakCommand (s : State) : Result :=
  if !s.enable then .next s
  else if s.canReceive then .next (s.clearIf.emit .nakOut)
  else .fault .undefinedSequence

/-- Write of `CMD`: one command, by the whole byte (R65); any other value is refused (R96). -/
def writeCmd (v : Byte) (s : State) : Result :=
  if v = cmdFlushByte then .next (flushCommand s)
  else if v = cmdStopByte then stopCommand s
  else if v = cmdRecvAckByte then recvAckCommand s
  else if v = cmdRecvNakByte then recvNakCommand s
  else .refused (.reservedCommand v)

/-- What a write does to the register it is made to (R80). -/
def writeReg (r : Reg) (v : Byte) (s : State) : Result :=
  match r with
  | .ctrl => .next (writeCtrl v s)
  | .cmd => writeCmd v s
  | .status => .next (writeStatus v s)
  | .baud => .next (writeBaud v s)
  | .addr => .next (writeAddr v s)
  | .data => writeData v s

/-! ## Register reads -/

/-- The value a read returns (R82, R83, R85, R89); of the two write-only registers, any value (R87, R94). -/
def readValue (r : Reg) (s : State) : Byte :=
  match r with
  | .ctrl => s.ctrlByte
  | .cmd => Config.freeByte s.drawCount
  | .status => s.statusByte
  | .baud => s.baud
  | .addr => Config.freeByte s.drawCount
  | .data => s.data

/-- No read changes the block (R45); a free value read is used up. -/
def readEffect (r : Reg) (s : State) : State :=
  match r with
  | .ctrl => s
  | .cmd => s.useDraw
  | .status => s
  | .baud => s
  | .addr => s.useDraw
  | .data => s

/-! ## The accesses of `SEQ` -/

/-- `MemWrite(REG_r, 1, v)`: the write and its entry in `reg_log` (R7, R49, R80). -/
def seqWrite (r : Reg) (v : Byte) (s : State) : Result :=
  andThen (writeReg r v s) fun t => .next (t.logReg (.w r v))

/-- The state after `MemRead(REG_r, 1)`, whose value is `readValue r s` (R7, R49, R80). -/
def seqRead (r : Reg) (s : State) : State :=
  (readEffect r s).logReg (.r r (readValue r s))

/-- The offset of a register from `TWI_BASE` (R41). -/
def Reg.offset : Reg → Address
  | .ctrl => 0x03
  | .cmd => 0x04
  | .status => 0x05
  | .baud => 0x06
  | .addr => 0x07
  | .data => 0x08

/-- `REG_r = TWI_BASE + offset(r)` (R41). -/
def Reg.address (r : Reg) : Address := Config.twiBase + r.offset

/-- The six registers. -/
def Reg.all : List Reg := [.ctrl, .cmd, .status, .baud, .addr, .data]

/-- The register at an address of the register space, if there is one (R41). -/
def regAt (a : Address) : Option Reg := Reg.all.find? (fun r => r.address == a)

/-- `MemWrite(a, size, v)` at any address and of any width: refused unless it is one byte at a register (R41, R42).
The micro-programs name the register they mean; `Laws/Access.lean` proves the two forms equal. -/
def memWrite (a : Address) (size : Nat) (v : Byte) (s : State) : Result :=
  if size = 1 then
    match regAt a with
    | some r => seqWrite r v s
    | none => .refused (.noRegister a)
  else .refused (.accessWidth size)

/-- `MemRead(a, size)` at any address and of any width, with the same refusals; `k` takes the value read. -/
def memRead (a : Address) (size : Nat) (s : State) (k : Byte → State → Result) : Result :=
  if size = 1 then
    match regAt a with
    | some r => k (readValue r s) (seqRead r s)
    | none => .refused (.noRegister a)
  else .refused (.accessWidth size)

/-! ## The parts of a micro-program -/

/-- A write step: `MemWrite(REG_r, 1, v); pc <- l` (R126). -/
def writeStep (r : Reg) (v : Byte) (l : MicroPc) (s : State) : Result :=
  andThen (seqWrite r v s) fun t => .next (t.goto l)

/-- The poll (R127): read `STATUS` once, latch it, test the latched value; a failed test repeats the step. -/
def pollStep (c : Byte → Bool) (ok again : MicroPc) (s : State) : Result :=
  .next (((seqRead .status s).latchSt s.statusByte).goto (if c s.statusByte then ok else again))

/-- The data capture `SEQ.rdata <- MemRead(REG_DATA, 1); pc <- l` (R155, step A1). -/
def captureStep (l : MicroPc) (s : State) : Result :=
  .next (((seqRead .data s).latchRdata s.data).goto l)

/-- `respond(code, data)` as a step of its own (R128). -/
def respondStep (code data : Byte) (s : State) : Result := .next (s.respond code data)

/-- One step of the operation `opc`, `opd`: at `READY` its request is accepted (R125); while it runs, the step its
micro-PC labels (R126); while another operation runs `HOST` has no move (R125). -/
def operation (opc opd : Byte) (entry : MicroPc) (micro : State → Result) (s : State) : Result :=
  if s.pc = .ready then .next (s.accept opc opd entry)
  else if s.op = opc ∧ s.arg = opd then micro s
  else .refused .hostNotReady

end Sys2Proof.Machine
end

