-- ==== Sys2Proof/Machine/Commands.lean ====
section
/-! DEFINITION. The four commands of format `CMD8` as instructions: the write of the command register that delivers
each, made by `SEQ` (R65, R90 to R93). Its entry in `reg_log` is part of it (R49). -/

namespace Sys2Proof.Machine

/-- `CMD.FLUSH` (R90): clears the interrupt and error flags and cancels the posted phase; `BUSSTATE` stays. -/
def execCmdFlush (s : State) : Result := seqWrite .cmd cmdFlushByte s

/-- `CMD.STOP` (R91): posts the stop phase inside the data window. -/
def execCmdStop (s : State) : Result := seqWrite .cmd cmdStopByte s

/-- `CMD.RECV_ACK` (R92): acknowledges the received byte and asks for the next. -/
def execCmdRecvAck (s : State) : Result := seqWrite .cmd cmdRecvAckByte s

/-- `CMD.RECV_NAK` (R93): refuses more bytes; the transaction stays open. -/
def execCmdRecvNak (s : State) : Result := seqWrite .cmd cmdRecvNakByte s

end Sys2Proof.Machine
end

