-- ==== Sys2Proof/Machine/Init.lean ====
section
/-! DEFINITION. The operation `init` (R130). -/

namespace Sys2Proof.Machine

/-- Steps `I0` to `I3` (R130, R69). -/
def initMicro (s : State) : Result :=
  match s.pc with
  | .i0 => writeStep .baud Config.baudDiv .i1 s
  | .i1 => writeStep .ctrl ctrlInit .i2 s
  | .i2 => writeStep .status statusInit .i3 s
  | .i3 => respondStep codeOk 0 s
  | _ => .refused .foreignLabel

/-- `init` (R130). -/
def execInit (s : State) : Result := operation opcInit 0 .i0 initMicro s

end Sys2Proof.Machine
end

