-- ==== Sys2Proof/Machine/Read.lean ====
section
/-! DEFINITION. The operations `readByteAck` and `readByteNak` (R155, R156), which share the steps `A0` to `A3`. -/

namespace Sys2Proof.Machine

/-- The command of step `A2`, told by `SEQ.op` (R155). -/
def readCommand (op : Byte) : Byte := if op = opcReadByteAck then cmdRecvAckByte else cmdRecvNakByte

/-- Steps `A0` to `A3` (R155): poll, capture, command, answer. -/
def readMicro (s : State) : Result :=
  match s.pc with
  | .a0 => pollStep rifSet .a1 .a0 s
  | .a1 => captureStep .a2 s
  | .a2 => writeStep .cmd (readCommand s.op) .a3 s
  | .a3 => respondStep codeOk s.rdata s
  | _ => .refused .foreignLabel

/-- `readByteAck` (R155). -/
def execReadByteAck (s : State) : Result := operation opcReadByteAck 0 .a0 readMicro s

/-- `readByteNak` (R156). -/
def execReadByteNak (s : State) : Result := operation opcReadByteNak 0 .a0 readMicro s

end Sys2Proof.Machine
end

