-- ==== Sys2Proof/Machine/Start.lean ====
section
/-! DEFINITION. The operations `start`, `repeatedStart` and `startWithRetry` (R135 to R137), which share the steps
`S0` to `S3`. -/

namespace Sys2Proof.Machine

/-- `fail` of step `S3`: `startWithRetry` waits and retries, the others answer (R135). -/
def startFail (s : State) : Result :=
  if s.op = opcStartWithRetry then .next (s.goto .w4) else respondStep codeNotAccessible 0 s

/-- Step `S3` (R135): the error flags of the latched status are tested before the acknowledge bit. -/
def startDecide (s : State) : Result :=
  if errSet s.st then startFail s
  else if nakSet s.st then startFail s
  else respondStep codeOk 0 s

/-- Steps `S0` to `S3` (R135). -/
def startMicro (s : State) : Result :=
  match s.pc with
  | .s0 => writeStep .cmd cmdFlushByte .s1 s
  | .s1 => writeStep .addr s.arg .s2 s
  | .s2 => pollStep anyIf .s3 .s2 s
  | .s3 => startDecide s
  | _ => .refused .foreignLabel

/-- Steps `S0` to `S3`, and `W4`, the wait for an idle bus between attempts (R137). -/
def retryMicro (s : State) : Result :=
  match s.pc with
  | .w4 => pollStep isIdle .s0 .w4 s
  | _ => startMicro s

/-- `start` (R135). -/
def execStart (a : Byte) (s : State) : Result := operation opcStart a .s0 startMicro s

/-- `repeatedStart` (R136): the steps of `start`, under its own opcode. -/
def execRepeatedStart (a : Byte) (s : State) : Result := operation opcRepeatedStart a .s0 startMicro s

/-- `startWithRetry` (R137). -/
def execStartWithRetry (a : Byte) (s : State) : Result := operation opcStartWithRetry a .s0 retryMicro s

end Sys2Proof.Machine
end

