-- ==== Sys2Proof/Machine/Stop.lean ====
section
/-! DEFINITION. The operation `stop` (R145). -/

namespace Sys2Proof.Machine

/-- Steps `P0` to `P2` (R145). -/
def stopMicro (s : State) : Result :=
  match s.pc with
  | .p0 => writeStep .cmd cmdStopByte .p1 s
  | .p1 => pollStep isIdle .p2 .p1 s
  | .p2 => respondStep codeOk 0 s
  | _ => .refused .foreignLabel

/-- `stop` (R145). -/
def execStop (s : State) : Result := operation opcStop 0 .p0 stopMicro s

end Sys2Proof.Machine
end

