-- ==== Sys2Proof/Machine/Write.lean ====
section
/-! DEFINITION. The operation `writeByte` (R150). -/

namespace Sys2Proof.Machine

/-- Step `X2` (R150): the latched acknowledge bit alone decides; the error flags are not tested. -/
def writeDecide (s : State) : Result :=
  if nakSet s.st then respondStep codeNotAcknowledged 0 s else respondStep codeOk 0 s

/-- Steps `X0` to `X2` (R150). -/
def writeMicro (s : State) : Result :=
  match s.pc with
  | .x0 => writeStep .data s.arg .x1 s
  | .x1 => pollStep wifSet .x2 .x1 s
  | .x2 => writeDecide s
  | _ => .refused .foreignLabel

/-- `writeByte` (R150). -/
def execWriteByte (d : Byte) (s : State) : Result := operation opcWriteByte d .x0 writeMicro s

end Sys2Proof.Machine
end

