-- ==== Sys2Proof/Machine/Dispatch.lean ====
section
/-! DEFINITION. One step of an instruction: for an operation, the acceptance of its request or the step its micro-PC
labels (R125, R126); for a command, the register write that delivers it (R80). -/

namespace Sys2Proof.Machine

def exec (i : Instr) (s : State) : Host.Outcome State Fault Refusal :=
  match i with
  | .init => Sys2Proof.Machine.execInit s
  | .start a => Sys2Proof.Machine.execStart a s
  | .repeatedStart a => Sys2Proof.Machine.execRepeatedStart a s
  | .startWithRetry a => Sys2Proof.Machine.execStartWithRetry a s
  | .stop => Sys2Proof.Machine.execStop s
  | .writeByte d => Sys2Proof.Machine.execWriteByte d s
  | .readByteAck => Sys2Proof.Machine.execReadByteAck s
  | .readByteNak => Sys2Proof.Machine.execReadByteNak s
  | .cmdFlush => Sys2Proof.Machine.execCmdFlush s
  | .cmdStop => Sys2Proof.Machine.execCmdStop s
  | .cmdRecvAck => Sys2Proof.Machine.execCmdRecvAck s
  | .cmdRecvNak => Sys2Proof.Machine.execCmdRecvNak s

end Sys2Proof.Machine
end

