-- ==== Sys2Proof/Machine/Engine.lean ====
section
/-! DEFINITION. The steps the controller's engine and the bus environment take on their own (R110 to R118), and the
reset event (R180). None of them can fail; an agent with no enabled step leaves the state as it is (log entry 6). -/

namespace Sys2Proof.Machine

/-- `IdleOrBusy` as a bus state (R116). -/
def busStateOf : IdleOrBusy → BusState
  | .idle => .idle
  | .busy => .busy

/-- What every error outcome does besides its own flag (R116). -/
def errorTail (d : Draws) (s : State) : State := { s with wif := true, rxack := d.rxack, phase := .none }

/-- `ErrorOutcome(ArbLost)` (R116). -/
def arbLostOutcome (d : Draws) (s : State) : State :=
  errorTail d ({ s with arblost := true, busState := .busy }.emit .arbLostEv)

/-- `ErrorOutcome(BusErr)` (R116). -/
def busErrOutcome (d : Draws) (s : State) : State :=
  errorTail d ({ s with buserr := true, busState := busStateOf d.busAfterErr }.emit .busErrEv)

/-- A received byte or an error in its place (R111, R114). -/
def receive (d : Draws) (s : State) : State :=
  match d.rx with
  | .byte b => { s with data := b, rif := true, phase := .none }.emit (.rxData b)
  | .arbLost => arbLostOutcome d s
  | .busErr => busErrOutcome d s

/-- The slave's ACK: `emit AckIn; CTL.RXACK <- 0` (R111, R113). -/
def acknowledged (s : State) : State := { s with rxack := false }.emit .ackIn

/-- The slave's NAK: `emit NakIn; CTL.RXACK <- 1` (R111, R113). -/
def notAcknowledged (s : State) : State := { s with rxack := true }.emit .nakIn

/-- What `G-ADDR` does before it asks for the answer (R111). -/
def addressSent (a : Byte) (s : State) : State :=
  { (s.emit (if s.busState = .idle then .start else .repStart)).emit (.addrByte a) with
    busState := .owner, dir := Dir.ofByte a }

/-- Engine step `G-ADDR` (R111). -/
def gAddr (a : Byte) (d : Draws) (s : State) : State :=
  match d.ans with
  | .ack =>
    if dirBit a then receive d (acknowledged (addressSent a s))
    else { acknowledged (addressSent a s) with wif := true, phase := .none }
  | .nak => { notAcknowledged (addressSent a s) with wif := true, phase := .stop }
  | .arbLost => arbLostOutcome d (addressSent a s)
  | .busErr => busErrOutcome d (addressSent a s)

/-- Engine step `G-TX` (R113). -/
def gTx (b : Byte) (d : Draws) (s : State) : State :=
  match d.ans with
  | .ack => { acknowledged (s.emit (.txData b)) with wif := true, phase := .none }
  | .nak => { notAcknowledged (s.emit (.txData b)) with wif := true, phase := .none }
  | .arbLost => arbLostOutcome d (s.emit (.txData b))
  | .busErr => busErrOutcome d (s.emit (.txData b))

/-- Engine step `G-RX` (R114). -/
def gRx (d : Draws) (s : State) : State := receive d s

/-- Engine step `G-STOP` (R115). -/
def gStop (s : State) : State := { s.emit .stop with busState := .idle, phase := .none }

/-- The bus states in which an address phase is performed (R111). -/
def BusState.canAddress : BusState → Bool
  | .unknown => false
  | .idle => true
  | .owner => true
  | .busy => false

/-- An engine step is enabled (R110, R111). -/
def State.engineEnabled (s : State) : Bool :=
  s.enable &&
    match s.phase with
    | .none => false
    | .addr _ => s.busState.canAddress
    | .tx _ => true
    | .rx => true
    | .stop => true

/-- The engine's turn: the posted phase is performed, where its step is enabled (R110). -/
def engineStep (d : Draws) (s : State) : State :=
  if s.engineEnabled then
    match s.phase with
    | .none => s
    | .addr a => gAddr a d s
    | .tx b => gTx b d s
    | .rx => gRx d s
    | .stop => gStop s
  else s

/-- The draws of `ErrorOutcome(ArbLost)` (R116). -/
def arbLostDraws (d : Draws) : List Draw := [.bit d.rxack]

/-- The draws of `ErrorOutcome(BusErr)`, in its order (R116). -/
def busErrDraws (d : Draws) : List Draw := [.idleOrBusy d.busAfterErr, .bit d.rxack]

/-- The draws of a reception (R111, R114). -/
def receiveDraws (d : Draws) : List Draw :=
  .rx d.rx :: match d.rx with
    | .byte _ => []
    | .arbLost => arbLostDraws d
    | .busErr => busErrDraws d

/-- The draws of a byte sent; `more` are those an ACK leads to (R111, R113). -/
def answerDraws (d : Draws) (more : List Draw) : List Draw :=
  .answer d.ans :: match d.ans with
    | .ack => more
    | .nak => []
    | .arbLost => arbLostDraws d
    | .busErr => busErrDraws d

/-- What the engine's turn asks the environment for, in the order it asks (R111 to R116): nothing where no step is
enabled, and nothing for a stop. -/
def drawsAsked (d : Draws) (s : State) : List Draw :=
  if s.engineEnabled then
    match s.phase with
    | .none => []
    | .addr a => answerDraws d (if dirBit a then receiveDraws d else [])
    | .tx _ => answerDraws d []
    | .rx => receiveDraws d
    | .stop => []
  else []

/-- `ENV` step `E-FREE` (R117). -/
def envFreeStep (s : State) : State := if s.busState = .busy then { s with busState := .idle } else s

/-- `ENV` step `E-TAKE` (R118). -/
def envTakeStep (s : State) : State := if s.busState = .idle then { s with busState := .busy } else s

/-- The reset event (R180): every piece of the block's state takes its value of R25. The logs are no hardware and are
kept (log entry 7); the schedule is the world's, not the block's. -/
def resetEvent (s : State) : State :=
  { State.reset with regLog := s.regLog, busLog := s.busLog, moves := s.moves, drawCount := s.drawCount }

end Sys2Proof.Machine
end

