-- ==== Sys2Proof/Machine/Schedule.lean ====
section
/-! DEFINITION. The interleaving of the agents (R2, R46): what one turn does, which turn comes next, and how a request
word or a command byte is put where the block takes its next instruction from. -/

namespace Sys2Proof.Machine

/-- `HOST`'s turn: at `READY` the word it presents is decoded and accepted, a reserved word is refused (R125, R63). -/
def hostTurn (w : Word16) (s : State) : Result :=
  if s.pc = .ready then
    match decodeReq w with
    | .ok i => exec i s
    | .error _ => .refused (.reservedRequest w)
  else .refused .hostNotReady

/-- `SEQ`'s turn: one step of the operation `SEQ.op`, `SEQ.arg` hold (R126). At `READY` it has no step. -/
def seqTurn (s : State) : Result :=
  if s.pc = .ready then .next s
  else
    match decodeReq (reqWord s.op s.arg) with
    | .ok i => exec i s
    | .error _ => .refused .foreignLabel

/-- One turn. -/
def runMove (m : Move) (s : State) : Result :=
  match m with
  | .host w => hostTurn w s
  | .seq => seqTurn s
  | .engine d => .next (engineStep d s)
  | .envFree => .next (envFreeStep s)
  | .envTake => .next (envTakeStep s)
  | .reset => .next (resetEvent s)

/-- The turn that comes next: the first of the schedule, or a free one when the schedule is used up (log entry 2). -/
def nextMove (s : State) : Move :=
  match s.moves with
  | [] => Config.freeMove s.drawCount
  | m :: _ => m

/-- The state with that turn taken from the schedule. -/
def takeMove (s : State) : State :=
  match s.moves with
  | [] => s.useDraw
  | _ :: ms => { s with moves := ms }

/-- The machine's step: the next turn is taken. -/
def stepTurn (s : State) : Result := runMove (nextMove s) (takeMove s)

/-- Turns taken one after another, with no schedule in between: for claims about a given interleaving. -/
def runMoves : List Move → State → Result
  | [], s => .next s
  | m :: ms, s => andThen (runMove m s) (runMoves ms)

/-- What a turn asks the environment for; only the engine's asks. -/
def moveDraws (m : Move) (s : State) : List Draw :=
  match m with
  | .host _ => []
  | .seq => []
  | .engine d => drawsAsked d s
  | .envFree => []
  | .envTake => []
  | .reset => []

/-- The draws of a run of turns, in the order the engine asks for them (R120). -/
def drawsTaken : List Move → State → List Draw
  | [], _ => []
  | m :: ms, s =>
    moveDraws m s ++
      match runMove m s with
      | .next t => drawsTaken ms t
      | .fault _ => []
      | .refused _ => []

/-- The block at `READY` with `HOST` about to present `w`. -/
def presentRequest (w : Word16) (s : State) : State :=
  { s with pc := .ready, moves := .host w :: s.moves }

/-- `SEQ` about to write the command byte `v` to `CMD`, by the step of an operation that writes it: `S0` of `start`,
`P0` of `stop`, `A2` of `readByteAck` or of `readByteNak` (log entry 8). No operation writes any other byte. -/
def presentCommand (v : Byte) (s : State) : State :=
  if v = cmdFlushByte then { s with op := opcStart, pc := .s0, moves := .seq :: s.moves }
  else if v = cmdStopByte then { s with op := opcStop, arg := 0, pc := .p0, moves := .seq :: s.moves }
  else if v = cmdRecvAckByte then { s with op := opcReadByteAck, arg := 0, pc := .a2, moves := .seq :: s.moves }
  else if v = cmdRecvNakByte then { s with op := opcReadByteNak, arg := 0, pc := .a2, moves := .seq :: s.moves }
  else s

end Sys2Proof.Machine
end

