-- ==== Sys2Proof/Machine/Step.lean ====
section
/-! DEFINITION. The step of the machine, and the placing of an instruction where the step takes it from. -/

namespace Sys2Proof.Machine

/-- One atomic transition of one agent (R7): the next turn of the interleaving. -/
def step (s : State) : Host.Outcome State Fault Refusal := stepTurn s

/-- `s` with the instruction the table numbers `nbits`, `w` placed so that the very next step runs it: a request word is
presented by `HOST`; a command byte is about to be written by `SEQ` (log entry 8). -/
def State.withFetchWord (s : State) (nbits w : Nat) : State :=
  if nbits = 8 then presentCommand (BitVec.ofNat 8 w) s else presentRequest (BitVec.ofNat 16 w) s

end Sys2Proof.Machine
end

