-- ==== Sys2Proof/Safety.lean ====
section
/-! DEFINITION. The terms claims are made in: the invariant of every run, the source's
bus-level states (R121), and the premises on the environment and on fairness (R119, R120). -/

namespace Sys2Proof.Machine

/-! ## The invariant -/

/-- Neither interrupt is enabled: the operation set never writes 1 to either bit (R24). -/
def State.interruptsOff (s : State) : Bool := !s.rien && !s.wien

/-- What holds while a phase is posted (R111, R113, R114). -/
def State.phaseOk (s : State) : Bool :=
  match s.phase with
  | .none => true
  | .addr _ => s.enable && !s.rif && !s.wif && !s.arblost && !s.buserr
  | .tx _ => s.enable && s.busState == .owner && s.dir == .write && !s.rif && !s.wif
  | .rx => s.enable && s.busState == .owner && s.dir == .read && !s.rif && !s.wif
  | .stop => s.enable && s.busState == .owner && !s.rif

/-- How the status flags stand to one another: at most one interrupt flag (R164), `RIF` only in the read direction
(R155), no error flag while the bus is owned (R116), nothing set while disabled (R81). -/
def State.flagsOk (s : State) : Bool :=
  !(s.rif && s.wif) &&
  (!s.rif || s.dir == .read) &&
  (!(s.busState == .owner) || (!s.arblost && !s.buserr)) &&
  (s.enable || s.statusByte == 0)

/-- No phase is posted but a stop, at most. -/
def State.quiet (s : State) : Bool :=
  match s.phase with
  | .none => true
  | .addr _ => false
  | .tx _ => false
  | .rx => false
  | .stop => true

/-- The five flag bits of the status register, without `BUSSTATE`. -/
def maskFlags : Byte := 0xDC

/-- The latched status still shows every flag as it is (R127). -/
def State.latchCurrent (s : State) : Bool := (s.statusByte &&& maskFlags) == (s.st &&& maskFlags)

/-- The micro-PC stands at a label of the operation `SEQ.op` names, and what its earlier steps established holds
(R19, R21, R126). -/
def State.labelOk (s : State) : Bool :=
  match s.pc with
  | .ready => true
  | .i0 => s.op == opcInit && s.arg == 0
  | .i1 => s.op == opcInit && s.arg == 0
  | .i2 => s.op == opcInit && s.arg == 0 && s.enable
  | .i3 => s.op == opcInit && s.arg == 0 && s.enable
  | .s0 => s.op == opcStart || s.op == opcRepeatedStart || s.op == opcStartWithRetry
  | .s1 => (s.op == opcStart || s.op == opcRepeatedStart || s.op == opcStartWithRetry) && s.phase == .none
  | .s2 => (s.op == opcStart || s.op == opcRepeatedStart || s.op == opcStartWithRetry) &&
      (s.quiet || s.phase == .addr s.arg)
  | .s3 => (s.op == opcStart || s.op == opcRepeatedStart || s.op == opcStartWithRetry) &&
      s.quiet && anyIf s.st && s.latchCurrent
  | .w4 => s.op == opcStartWithRetry && s.quiet
  | .p0 => s.op == opcStop && s.arg == 0
  | .p1 => s.op == opcStop && s.arg == 0 && s.quiet
  | .p2 => s.op == opcStop && s.arg == 0 && s.phase == .none && isIdle s.st
  | .x0 => s.op == opcWriteByte
  | .x1 => s.op == opcWriteByte && (s.phase == .none || s.phase == .tx s.arg)
  | .x2 => s.op == opcWriteByte && s.phase == .none && wifSet s.st && s.latchCurrent
  | .a0 => (s.op == opcReadByteAck || s.op == opcReadByteNak) && s.arg == 0
  | .a1 => (s.op == opcReadByteAck || s.op == opcReadByteNak) && s.arg == 0 && s.phase == .none && s.rif && s.enable
  | .a2 => (s.op == opcReadByteAck || s.op == opcReadByteNak) && s.arg == 0 && s.phase == .none && s.rif && s.enable &&
      s.rdata == s.data
  | .a3 => (s.op == opcReadByteAck || s.op == opcReadByteNak) && s.arg == 0

/-- No response stands while an operation runs (R125, R128). -/
def State.responseOk (s : State) : Bool := s.pc == .ready || s.rsp == none

/-- The invariant every step keeps. -/
def State.Inv (s : State) : Bool :=
  s.interruptsOff && s.phaseOk && s.flagsOk && s.labelOk && s.responseOk

/-! ## The source's bus-level states (R121) -/

/-- `Idle` of R121. -/
def State.inIdle (s : State) : Bool := s.busState == .idle && s.phase == .none

/-- `AddressPhase` of R121. -/
def State.inAddressPhase (s : State) : Bool :=
  match s.phase with
  | .none => false
  | .addr _ => true
  | .tx _ => false
  | .rx => false
  | .stop => false

/-- `DataPhase` of R121. -/
def State.inDataPhase (s : State) : Bool :=
  s.busState == .owner &&
    match s.phase with
    | .none => true
    | .addr _ => false
    | .tx _ => true
    | .rx => true
    | .stop => false

/-- "toward `Idle`" of R121. -/
def State.towardIdle (s : State) : Bool := s.phase == .stop || s.busState == .busy || s.busState == .idle

/-! ## Schedules: the premises of R119 and R120

A schedule is an infinite sequence of turns. A turn of an agent with no enabled step changes nothing, so an agent that
gets infinitely many turns takes every step that stays enabled: weak fairness. -/

/-- The first `n` turns of a schedule, from `s`. -/
def runStream (σ : Nat → Move) (n : Nat) (s : State) : Result := runMoves ((List.range n).map σ) s

/-- Neither `HOST` nor the platform acts: one operation is left to itself. -/
def undisturbed (σ : Nat → Move) : Prop := ∀ n, σ n ≠ .reset ∧ ∀ w, σ n ≠ .host w

/-- No other master takes an idle bus: `E-TAKE` never fires, one half of `EnvSingleMaster` (R120). -/
def noTake (σ : Nat → Move) : Prop := ∀ n, σ n ≠ .envTake

/-- Weak fairness of `SEQ` (R119). -/
def fairSeq (σ : Nat → Move) : Prop := ∀ n, ∃ k, n ≤ k ∧ σ k = .seq

/-- Weak fairness of the engine steps (R119). -/
def fairEngine (σ : Nat → Move) : Prop := ∀ n, ∃ k, n ≤ k ∧ ∃ d, σ k = .engine d

/-- `EnvSingleMaster` (R120). -/
def envSingleMaster (σ : Nat → Move) : Prop :=
  ∀ n, σ n ≠ .envTake ∧ ∀ d, σ n = .engine d → d.ans ≠ .arbLost ∧ d.rx ≠ .arbLost

/-- `EnvNoBusError` (R120). -/
def envNoBusError (σ : Nat → Move) : Prop := ∀ n d, σ n = .engine d → d.ans ≠ .busErr ∧ d.rx ≠ .busErr

/-- `EnvReleases` (R120): `E-FREE` is weakly fair. -/
def envReleases (σ : Nat → Move) : Prop := ∀ n, ∃ k, n ≤ k ∧ σ k = .envFree

/-- Turn `k` performs the address phase for `a`, answered by `d` (R111). -/
def addressPhaseAt (σ : Nat → Move) (s : State) (a : Byte) (k : Nat) (d : Draws) : Prop :=
  σ k = .engine d ∧ ∃ t, runStream σ k s = .next t ∧ t.engineEnabled = true ∧ t.phase = .addr a

/-- The address phase for `a` is answered by none of `Nak`, `ArbLost`, `BusErr` (R111, R120). -/
def drawsAccept (a : Byte) (d : Draws) : Prop := d.ans = .ack ∧ (dirBit a = true → ∃ b, d.rx = .byte b)

/-- `EnvEventuallyAcks(a)` (R120): if address phases for `a` never stop being performed, one of them is accepted. -/
def envEventuallyAcks (σ : Nat → Move) (s : State) (a : Byte) : Prop :=
  (∀ n, ∃ k d, n ≤ k ∧ addressPhaseAt σ s a k d) → ∃ k d, addressPhaseAt σ s a k d ∧ drawsAccept a d

/-- `EnvScript(l)` (R120): in the run of `ms` from `s` the engine takes its draws, in the order it asks for them, from `l`. -/
def envScript (l : List Draw) (ms : List Move) (s : State) : Prop := drawsTaken ms s <+: l

/-- A turn of `SEQ`, `CTL` or `ENV`: neither `HOST` nor the platform acts. -/
def isInternal : Move → Bool
  | .host _ => false
  | .seq => true
  | .engine _ => true
  | .envFree => true
  | .envTake => true
  | .reset => false

/-! ## Control flow and responses -/

/-- The labels a step may name as its successor (R129), a poll's own label among them. -/
def MicroPc.successors : MicroPc → List MicroPc
  | .ready => [.i0, .s0, .p0, .x0, .a0]
  | .i0 => [.i1]
  | .i1 => [.i2]
  | .i2 => [.i3]
  | .i3 => [.ready]
  | .s0 => [.s1]
  | .s1 => [.s2]
  | .s2 => [.s2, .s3]
  | .s3 => [.ready, .w4]
  | .w4 => [.w4, .s0]
  | .p0 => [.p1]
  | .p1 => [.p1, .p2]
  | .p2 => [.ready]
  | .x0 => [.x1]
  | .x1 => [.x1, .x2]
  | .x2 => [.ready]
  | .a0 => [.a0, .a1]
  | .a1 => [.a2]
  | .a2 => [.a3]
  | .a3 => [.ready]

/-- The responses an instruction can give (R64, R137); a command gives none. -/
def allowedResponse (i : Instr) (w : Word16) : Bool :=
  match i with
  | .init => w == 0x0000
  | .start _ => w == 0x0000 || w == 0x0100
  | .repeatedStart _ => w == 0x0000 || w == 0x0100
  | .startWithRetry _ => w == 0x0000
  | .stop => w == 0x0000
  | .writeByte _ => w == 0x0000 || w == 0x0200
  | .readByteAck => rspCode w == 0x00
  | .readByteNak => rspCode w == 0x00
  | .cmdFlush => false
  | .cmdStop => false
  | .cmdRecvAck => false
  | .cmdRecvNak => false

/-- The turns of one failed attempt of `startWithRetry` from `S0`: flush, address, the phase answered by a NAK, the poll,
the decision, the automatic stop, the wait for idle (R137). -/
def failedAttempt (d e : Draws) : List Move := [.seq, .seq, .engine d, .seq, .seq, .engine e, .seq]

/-- The turns of the attempt that succeeds (R137). -/
def lastAttempt (d : Draws) : List Move := [.seq, .seq, .engine d, .seq, .seq]

end Sys2Proof.Machine
end

