-- ==== Sys2Proof/Certificates/Slice0/Obligations.lean ====
section
/-! DEFINITION. The statements for the provers, from the numbered rules of the spec. A name ending in `Steps` says what
`exec` answers at each label of an operation; one ending in `Run`, what a whole operation does under a given
interleaving. -/

open Sys2Proof Sys2Proof.Machine

/-! ## Encodings -/

/-- Every instruction of both formats, with every operand, is read back from the word it is written as (R60, R61, R65). -/
def Obligations.DecodeEncodeRoundTrip : Prop := ∀ i : Instr, decode (encode i) = .ok i

/-- No two words are one instruction, and every word the decoder reads is the one the instruction is written as
(R61, R65). -/
def Obligations.EncodeDecodeRoundTrip : Prop := ∀ (w : CodeWord) (i : Instr), decode w = .ok i → encode i = w

/-- Words written out from R61 and R65 (vectors T-DEC1 to T-DEC14). -/
def Obligations.SampleWordsDecode : Prop :=
  decodeTableWord 16 0b0000000000000000 = some .init ∧
  decodeTableWord 16 0b0000000110100000 = some (.start 0xA0) ∧
  decodeTableWord 16 0b0000001010100001 = some (.repeatedStart 0xA1) ∧
  decodeTableWord 16 0b0000001111111111 = some (.startWithRetry 0xFF) ∧
  decodeTableWord 16 0b0000010000000000 = some .stop ∧
  decodeTableWord 16 0b0000010100010000 = some (.writeByte 0x10) ∧
  decodeTableWord 16 0b0000011000000000 = some .readByteAck ∧
  decodeTableWord 16 0b0000011100000000 = some .readByteNak ∧
  decodeTableWord 8 0b00001000 = some .cmdFlush ∧
  decodeTableWord 8 0b00000011 = some .cmdStop ∧
  decodeTableWord 8 0b00000010 = some .cmdRecvAck ∧
  decodeTableWord 8 0b00000110 = some .cmdRecvNak ∧
  decodeTableWord 16 0x0401 = none ∧ decodeTableWord 16 0x0800 = none ∧ decodeTableWord 8 0x00 = none

/-- R63, R66, R96: a request word is reserved exactly when `opc >= 0x08`, or an operation without an operand has
`opd != 0`; a reserved one is refused at `READY`, and every other is accepted. A write of `CMD` with a value that is none
of the four is refused, in every state. -/
def Obligations.ReservedWordsRefused : Prop :=
  (∀ (w : Word16) (s : State), s.pc = .ready →
    ((8 ≤ (opcOf w).toNat ∨
        ((opcOf w = 0x00 ∨ opcOf w = 0x04 ∨ opcOf w = 0x06 ∨ opcOf w = 0x07) ∧ opdOf w ≠ 0x00)) →
      hostTurn w s = .refused (.reservedRequest w)) ∧
    (¬(8 ≤ (opcOf w).toNat ∨
        ((opcOf w = 0x00 ∨ opcOf w = 0x04 ∨ opcOf w = 0x06 ∨ opcOf w = 0x07) ∧ opdOf w ≠ 0x00)) →
      ∃ t, hostTurn w s = .next t)) ∧
  (∀ (v : Byte) (s : State), v ≠ 0x08 → v ≠ 0x03 → v ≠ 0x02 → v ≠ 0x06 →
    seqWrite .cmd v s = .refused (.reservedCommand v))

/-- The address+direction byte `sla7 ++ dir` and its fields (R62), and the operand forms of the assembler: a line whose
operand is in the range of R68 is assembled, to a word that decodes to the line's operation. That a line whose operand is
out of range assembles to nothing is the model's choice, log entry 17. -/
def Obligations.OperandAssembly : Prop :=
  (∀ (sla7 : BitVec 7) (dir : Bool), sla7Of (addrByte sla7 dir) = sla7 ∧ dirBit (addrByte sla7 dir) = dir) ∧
  (∀ a : Byte, addrByte (sla7Of a) (dirBit a) = a) ∧
  (∀ n : Nat, n < 128 →
    assemble (.start (.writeTo n)) = assemble (.start (.literal (2 * n))) ∧
    assemble (.start (.readFrom n)) = assemble (.start (.literal (2 * n + 1)))) ∧
  (∀ l : AsmLine, l.wf = true → ∃ w, assemble l = some w ∧ decodeReq w = .ok l.instr) ∧
  (∀ l : AsmLine, l.wf = false → assemble l = none)

/-! ## Reset -/

/-- R25: the reset values the spec gives. (`SEQ.op`, `SEQ.arg`, `SEQ.st`, `SEQ.rdata` have none: log entry 5.) -/
def Obligations.ResetValues : Prop :=
  State.reset.ctrlByte = 0x00 ∧ State.reset.statusByte = 0x00 ∧ State.reset.busState = .unknown ∧
  State.reset.baud = 0x00 ∧ State.reset.addr = 0x00 ∧ State.reset.data = 0x00 ∧
  State.reset.phase = .none ∧ State.reset.dir = .write ∧ State.reset.pc = .ready ∧ State.reset.rsp = none ∧
  State.reset.irq = false ∧ State.reset.regLog = [] ∧ State.reset.busLog = []

/-- R180: the reset event, from any state, in one step: the values of R25, and no event added to `bus_log`. (What the
`SEQ` latches hold afterwards, and that the logs are kept, is the model's choice, log entries 5 and 7, not stated.) -/
def Obligations.ResetEventEffect : Prop :=
  ∀ s : State, ∃ t, runMove .reset s = .next t ∧
    t.ctrlByte = 0x00 ∧ t.statusByte = 0x00 ∧ t.baud = 0x00 ∧ t.addr = 0x00 ∧ t.data = 0x00 ∧
    t.phase = .none ∧ t.dir = .write ∧ t.pc = .ready ∧ t.rsp = none ∧ t.irq = false ∧ t.busLog <+: s.busLog

/-! ## Register accesses -/

/-- R81: a write of `CTRL` takes bits 7, 6, 0; enabling changes nothing else, disabling clears the status and drops
the phase without a bus event. -/
def Obligations.ControlWrite : Prop :=
  ∀ (v : Byte) (s : State),
    (v[0] = true →
      seqWrite .ctrl v s = .next { s with
        rien := v[7], wien := v[6], enable := true, regLog := s.regLog ++ [.w .ctrl v] }) ∧
    (v[0] = false →
      seqWrite .ctrl v s = .next { s with
        rien := v[7], wien := v[6], enable := false, phase := .none,
        rif := false, wif := false, rxack := false, arblost := false, buserr := false, busState := .unknown,
        regLog := s.regLog ++ [.w .ctrl v] })

/-- R84: a write of `STATUS` clears the flags written with one and, with `v[1:0] = 01`, forces idle and cancels the
phase; bits 5 and 4 do nothing. -/
def Obligations.StatusWrite : Prop :=
  ∀ (v : Byte) (s : State), ∃ t, seqWrite .status v s = .next t ∧
    (v[7] = true → t.rif = false) ∧ (v[7] = false → t.rif = s.rif) ∧
    (v[6] = true → t.wif = false) ∧ (v[6] = false → t.wif = s.wif) ∧
    (v[3] = true → t.arblost = false) ∧ (v[3] = false → t.arblost = s.arblost) ∧
    (v[2] = true → t.buserr = false) ∧ (v[2] = false → t.buserr = s.buserr) ∧
    (v &&& 0x03 = 0x01 → t.busState = .idle ∧ t.phase = .none) ∧
    (v &&& 0x03 ≠ 0x01 → t.busState = s.busState ∧ t.phase = s.phase) ∧
    t = { s with
      rif := t.rif, wif := t.wif, arblost := t.arblost, buserr := t.buserr, busState := t.busState, phase := t.phase,
      regLog := s.regLog ++ [.w .status v] }

/-- R85: a write of `BAUD` stores the byte and does nothing else, enabled or not; a read returns it. -/
def Obligations.TimingRegister : Prop :=
  ∀ (v : Byte) (s : State), ∃ t, seqWrite .baud v s = .next t ∧
    t = { s with baud := v, regLog := s.regLog ++ [.w .baud v] } ∧ readValue .baud t = v ∧
    seqRead .baud t = { t with regLog := t.regLog ++ [.r .baud v] }

/-- R86: a write of `ADDR` stores the byte and, while enabled, clears four flags and
posts the address phase in place of any other. -/
def Obligations.AddressWrite : Prop :=
  ∀ (a : Byte) (s : State),
    (s.enable = true →
      seqWrite .addr a s = .next { s with
        addr := a, rif := false, wif := false, arblost := false, buserr := false, phase := .addr a,
        regLog := s.regLog ++ [.w .addr a] }) ∧
    (s.enable = false →
      seqWrite .addr a s = .next { s with addr := a, regLog := s.regLog ++ [.w .addr a] })

/-- R88: a write of `DATA` is stored while disabled, starts a transmit phase inside the window in the write direction,
and is a fault in every other state. -/
def Obligations.DataWrite : Prop :=
  ∀ (d : Byte) (s : State),
    (s.enable = false →
      seqWrite .data d s = .next { s with data := d, regLog := s.regLog ++ [.w .data d] }) ∧
    (s.enable = true → s.busState = .owner → s.phase = .none → s.dir = .write →
      seqWrite .data d s = .next { s with
        data := d, wif := false, rif := false, phase := .tx d, regLog := s.regLog ++ [.w .data d] }) ∧
    (s.enable = true → ¬(s.busState = .owner ∧ s.phase = .none ∧ s.dir = .write) →
      seqWrite .data d s = .fault .undefinedSequence)

/-- R90: command `FLUSH` completes in every state; while enabled it clears four flags and the phase and keeps
`BUSSTATE`. -/
def Obligations.FlushCommand : Prop :=
  ∀ s : State,
    (s.enable = true →
      exec .cmdFlush s = .next { s with
        rif := false, wif := false, arblost := false, buserr := false, phase := .none,
        regLog := s.regLog ++ [.w .cmd 0x08] }) ∧
    (s.enable = false → exec .cmdFlush s = .next { s with regLog := s.regLog ++ [.w .cmd 0x08] })

/-- R91: command `STOP` posts the stop phase inside the window, does nothing while disabled, and is a fault elsewhere. -/
def Obligations.StopCommand : Prop :=
  ∀ s : State,
    (s.enable = false → exec .cmdStop s = .next { s with regLog := s.regLog ++ [.w .cmd 0x03] }) ∧
    (s.enable = true → s.busState = .owner → s.phase = .none →
      exec .cmdStop s = .next { s with
        rif := false, wif := false, phase := .stop, regLog := s.regLog ++ [.w .cmd 0x03] }) ∧
    (s.enable = true → ¬(s.busState = .owner ∧ s.phase = .none) → exec .cmdStop s = .fault .undefinedSequence)

/-- R92: command `RECV_ACK` sends the acknowledge bit and posts a receive phase, with a received byte waiting in an open
read transaction; it does nothing while disabled, and is a fault elsewhere. -/
def Obligations.RecvAckCommand : Prop :=
  ∀ s : State,
    (s.enable = false → exec .cmdRecvAck s = .next { s with regLog := s.regLog ++ [.w .cmd 0x02] }) ∧
    (s.enable = true → s.busState = .owner → s.phase = .none → s.dir = .read → s.rif = true →
      exec .cmdRecvAck s = .next { s with
        rif := false, wif := false, phase := .rx, busLog := s.busLog ++ [.ackOut],
        regLog := s.regLog ++ [.w .cmd 0x02] }) ∧
    (s.enable = true → ¬(s.busState = .owner ∧ s.phase = .none ∧ s.dir = .read ∧ s.rif = true) →
      exec .cmdRecvAck s = .fault .undefinedSequence)

/-- R93: command `RECV_NAK` sends the refusing bit and posts nothing, under the condition of `RECV_ACK`. -/
def Obligations.RecvNakCommand : Prop :=
  ∀ s : State,
    (s.enable = false → exec .cmdRecvNak s = .next { s with regLog := s.regLog ++ [.w .cmd 0x06] }) ∧
    (s.enable = true → s.busState = .owner → s.phase = .none → s.dir = .read → s.rif = true →
      exec .cmdRecvNak s = .next { s with
        rif := false, wif := false, busLog := s.busLog ++ [.nakOut], regLog := s.regLog ++ [.w .cmd 0x06] }) ∧
    (s.enable = true → ¬(s.busState = .owner ∧ s.phase = .none ∧ s.dir = .read ∧ s.rif = true) →
      exec .cmdRecvNak s = .fault .undefinedSequence)

/-- R82, R83, R89: the value of a read of `CTRL`, `STATUS`, `DATA`, bit by bit, and that a read leaves the block as it
is but for `reg_log`; a read of `ADDR` or `CMD` has no side effect either and its value is a free draw (R87, R94; the
count of draws used is the model's own, log entry 3). -/
def Obligations.RegisterReads : Prop :=
  ∀ s : State,
    ((readValue .ctrl s)[7] = s.rien ∧ (readValue .ctrl s)[6] = s.wien ∧
      (readValue .ctrl s)[0] = s.enable ∧ readValue .ctrl s &&& 0x3E = 0x00) ∧
    ((readValue .status s)[7] = s.rif ∧ (readValue .status s)[6] = s.wif ∧
      (readValue .status s)[5] = false ∧ (readValue .status s)[4] = s.rxack ∧
      (readValue .status s)[3] = s.arblost ∧ (readValue .status s)[2] = s.buserr ∧
      readValue .status s &&& 0x03 =
        (if s.busState = .unknown then 0x00 else if s.busState = .idle then 0x01
          else if s.busState = .owner then 0x02 else 0x03)) ∧
    readValue .data s = s.data ∧
    (∀ r : Reg, r ≠ .addr → r ≠ .cmd →
      seqRead r s = { s with regLog := s.regLog ++ [.r r (readValue r s)] }) ∧
    (∀ r : Reg, r = .addr ∨ r = .cmd →
      readValue r s = Config.freeByte s.drawCount ∧
      seqRead r s = { s with
        regLog := s.regLog ++ [.r r (readValue r s)], drawCount := s.drawCount + 1 })

/-- R42: one-byte accesses at the six addresses of R41 act on their registers; any other width and any other address is
refused. -/
def Obligations.AccessOutsideRegistersRefused : Prop :=
  ∀ (a : Address) (size : Nat) (v : Byte) (s : State) (k : Byte → State → Result),
    (size ≠ 1 → memWrite a size v s = .refused (.accessWidth size) ∧
      memRead a size s k = .refused (.accessWidth size)) ∧
    ((∀ n : Nat, 3 ≤ n → n ≤ 8 → a ≠ Config.twiBase + n) →
      memWrite a 1 v s = .refused (.noRegister a) ∧ memRead a 1 s k = .refused (.noRegister a)) ∧
    memWrite (Config.twiBase + 3) 1 v s = seqWrite .ctrl v s ∧
    memWrite (Config.twiBase + 4) 1 v s = seqWrite .cmd v s ∧
    memWrite (Config.twiBase + 5) 1 v s = seqWrite .status v s ∧
    memWrite (Config.twiBase + 6) 1 v s = seqWrite .baud v s ∧
    memWrite (Config.twiBase + 7) 1 v s = seqWrite .addr v s ∧
    memWrite (Config.twiBase + 8) 1 v s = seqWrite .data v s ∧
    memRead (Config.twiBase + 3) 1 s k = k (readValue .ctrl s) (seqRead .ctrl s) ∧
    memRead (Config.twiBase + 4) 1 s k = k (readValue .cmd s) (seqRead .cmd s) ∧
    memRead (Config.twiBase + 5) 1 s k = k (readValue .status s) (seqRead .status s) ∧
    memRead (Config.twiBase + 6) 1 s k = k (readValue .baud s) (seqRead .baud s) ∧
    memRead (Config.twiBase + 7) 1 s k = k (readValue .addr s) (seqRead .addr s) ∧
    memRead (Config.twiBase + 8) 1 s k = k (readValue .data s) (seqRead .data s)

/-- Every access of `SEQ` that completes appends its entry to `reg_log`, writes with the value written, reads with the value
returned; the turns of `CTL` and `ENV` append nothing (R49; of a faulting access the model keeps no state, log entry 9). -/
def Obligations.AccessesLogged : Prop :=
  (∀ (r : Reg) (v : Byte) (s t : State), seqWrite r v s = .next t → t.regLog = s.regLog ++ [.w r v]) ∧
  (∀ (r : Reg) (s : State), (seqRead r s).regLog = s.regLog ++ [.r r (readValue r s)]) ∧
  (∀ (d : Draws) (s : State), (engineStep d s).regLog = s.regLog ∧ (envFreeStep s).regLog = s.regLog ∧
    (envTakeStep s).regLog = s.regLog)

/-! ## The engine and the environment -/

/-- R111, R116: when the address phase is performed, and what it does, for every answer. -/
def Obligations.AddressPhase : Prop :=
  ∀ (a : Byte) (d : Draws) (s : State), s.phase = .addr a →
    (s.engineEnabled = true ↔ s.enable = true ∧ (s.busState = .idle ∨ s.busState = .owner)) ∧
    (s.enable = true → (s.busState = .idle ∨ s.busState = .owner) →
    let first := if s.busState = .idle then BusEvent.start else BusEvent.repStart
    let dir := if a[0] = true then Dir.read else Dir.write
    (d.ans = .ack → a[0] = false →
      engineStep d s = { s with
        busState := .owner, dir := dir, rxack := false, wif := true, phase := .none,
        busLog := s.busLog ++ [first, .addrByte a, .ackIn] }) ∧
    (∀ b, d.ans = .ack → a[0] = true → d.rx = .byte b →
      engineStep d s = { s with
        busState := .owner, dir := dir, rxack := false, rif := true, data := b, phase := .none,
        busLog := s.busLog ++ [first, .addrByte a, .ackIn, .rxData b] }) ∧
    (d.ans = .ack → a[0] = true → d.rx = .arbLost →
      engineStep d s = { s with
        busState := .busy, dir := dir, rxack := d.rxack, arblost := true, wif := true, phase := .none,
        busLog := s.busLog ++ [first, .addrByte a, .ackIn, .arbLostEv] }) ∧
    (d.ans = .ack → a[0] = true → d.rx = .busErr →
      engineStep d s = { s with
        busState := if d.busAfterErr = .idle then .idle else .busy, dir := dir, rxack := d.rxack, buserr := true,
        wif := true, phase := .none, busLog := s.busLog ++ [first, .addrByte a, .ackIn, .busErrEv] }) ∧
    (d.ans = .nak →
      engineStep d s = { s with
        busState := .owner, dir := dir, rxack := true, wif := true, phase := .stop,
        busLog := s.busLog ++ [first, .addrByte a, .nakIn] }) ∧
    (d.ans = .arbLost →
      engineStep d s = { s with
        busState := .busy, dir := dir, rxack := d.rxack, arblost := true, wif := true, phase := .none,
        busLog := s.busLog ++ [first, .addrByte a, .arbLostEv] }) ∧
    (d.ans = .busErr →
      engineStep d s = { s with
        busState := if d.busAfterErr = .idle then .idle else .busy, dir := dir, rxack := d.rxack, buserr := true,
        wif := true, phase := .none, busLog := s.busLog ++ [first, .addrByte a, .busErrEv] }))

/-- R113, R116: the transmit phase, for every answer; a data NAK leaves the bus owned. -/
def Obligations.TransmitPhase : Prop :=
  ∀ (b : Byte) (d : Draws) (s : State), s.enable = true → s.phase = .tx b → s.engineEnabled = true ∧
    (d.ans = .ack →
      engineStep d s = { s with
        rxack := false, wif := true, phase := .none, busLog := s.busLog ++ [.txData b, .ackIn] }) ∧
    (d.ans = .nak →
      engineStep d s = { s with
        rxack := true, wif := true, phase := .none, busLog := s.busLog ++ [.txData b, .nakIn] }) ∧
    (d.ans = .arbLost →
      engineStep d s = { s with
        busState := .busy, rxack := d.rxack, arblost := true, wif := true, phase := .none,
        busLog := s.busLog ++ [.txData b, .arbLostEv] }) ∧
    (d.ans = .busErr →
      engineStep d s = { s with
        busState := if d.busAfterErr = .idle then .idle else .busy, rxack := d.rxack, buserr := true, wif := true,
        phase := .none, busLog := s.busLog ++ [.txData b, .busErrEv] })

/-- R114, R116: the receive phase, for every answer; an error sets `WIF`, not `RIF`. -/
def Obligations.ReceivePhase : Prop :=
  ∀ (d : Draws) (s : State), s.enable = true → s.phase = .rx → s.engineEnabled = true ∧
    (∀ b, d.rx = .byte b →
      engineStep d s = { s with data := b, rif := true, phase := .none, busLog := s.busLog ++ [.rxData b] }) ∧
    (d.rx = .arbLost →
      engineStep d s = { s with
        busState := .busy, rxack := d.rxack, arblost := true, wif := true, phase := .none,
        busLog := s.busLog ++ [.arbLostEv] }) ∧
    (d.rx = .busErr →
      engineStep d s = { s with
        busState := if d.busAfterErr = .idle then .idle else .busy, rxack := d.rxack, buserr := true, wif := true,
        phase := .none, busLog := s.busLog ++ [.busErrEv] })

/-- R115: the stop phase makes the bus idle and changes no flag, whatever is drawn. -/
def Obligations.StopPhase : Prop :=
  ∀ (d : Draws) (s : State), s.enable = true → s.phase = .stop → s.engineEnabled = true ∧
    engineStep d s = { s with busState := .idle, phase := .none, busLog := s.busLog ++ [.stop] }

/-- R117, R118: the environment's two steps change `BUSSTATE` and nothing else. -/
def Obligations.EnvironmentSteps : Prop :=
  ∀ s : State,
    (s.busState = .busy → runMove .envFree s = .next { s with busState := .idle }) ∧
    (s.busState = .idle → runMove .envTake s = .next { s with busState := .busy })

/-- When an engine or environment step is not enabled (R110, R111, R117, R118). That the turn of an agent with no
enabled step changes nothing is the model's choice, log entry 6. -/
def Obligations.DisabledTurnsChangeNothing : Prop :=
  ∀ (d : Draws) (s : State),
    (s.enable = false → runMove (.engine d) s = .next s) ∧
    (s.phase = .none → runMove (.engine d) s = .next s) ∧
    (∀ a, s.phase = .addr a → s.busState = .busy ∨ s.busState = .unknown → runMove (.engine d) s = .next s) ∧
    (s.busState ≠ .busy → runMove .envFree s = .next s) ∧
    (s.busState ≠ .idle → runMove .envTake s = .next s) ∧
    (s.pc = .ready → runMove .seq s = .next s)

/-- What the engine and the environment leave alone: the sequencer, `CTRL`, `BAUD`, `ADDR`, `reg_log`; `bus_log` only
grows; and the environment logs no bus event. -/
def Obligations.EngineFrame : Prop :=
  ∀ (d : Draws) (s t : State), t = engineStep d s ∨ t = envFreeStep s ∨ t = envTakeStep s →
    t.rien = s.rien ∧ t.wien = s.wien ∧ t.enable = s.enable ∧ t.baud = s.baud ∧ t.addr = s.addr ∧
    t.pc = s.pc ∧ t.op = s.op ∧ t.arg = s.arg ∧ t.st = s.st ∧ t.rdata = s.rdata ∧ t.rsp = s.rsp ∧
    t.regLog = s.regLog ∧ t.moves = s.moves ∧ t.drawCount = s.drawCount ∧
    (∃ l, t.busLog = s.busLog ++ l) ∧
    (t = envFreeStep s ∨ t = envTakeStep s → t.busLog = s.busLog)

/-- The source's bus-level machine read in this state (R121), in the states of the invariant while enabled. The engine: an
address phase that is accepted leads to the data phase, one that is not leads out of it and toward idle; a byte sent,
acknowledged or not, and a byte received stay in the data phase, an arbitration loss or bus error leads out of it and
toward idle; a stop phase ends in idle. The operations: the start family leads from idle, and from the data phase, to the
address phase; `writeByte` and the reads stay in the data phase, `readByteNak` with nothing more asked for; `stop` leads
from the data phase toward idle, and its phase to idle. -/
def Obligations.BusMachine : Prop :=
  ∀ (d : Draws) (s : State), s.Inv = true → s.enable = true →
    (∀ a, s.phase = .addr a → (s.busState = .idle ∨ s.busState = .owner) →
      (drawsAccept a d → (engineStep d s).inDataPhase = true) ∧
      (¬drawsAccept a d → (engineStep d s).inDataPhase = false ∧ (engineStep d s).towardIdle = true)) ∧
    (∀ b, s.phase = .tx b →
      (d.ans = .ack ∨ d.ans = .nak → (engineStep d s).inDataPhase = true) ∧
      (d.ans = .arbLost ∨ d.ans = .busErr →
        (engineStep d s).inDataPhase = false ∧ (engineStep d s).towardIdle = true)) ∧
    (s.phase = .rx →
      (∀ b, d.rx = .byte b → (engineStep d s).inDataPhase = true) ∧
      (d.rx = .arbLost ∨ d.rx = .busErr →
        (engineStep d s).inDataPhase = false ∧ (engineStep d s).towardIdle = true)) ∧
    (s.phase = .stop → (engineStep d s).inIdle = true) ∧
    (∀ i, (i = .start s.arg ∧ s.op = 0x01) ∨ (i = .repeatedStart s.arg ∧ s.op = 0x02) ∨
        (i = .startWithRetry s.arg ∧ s.op = 0x03) →
      s.pc = .s1 → s.inIdle = true ∨ s.inDataPhase = true → ∃ t, exec i s = .next t ∧ t.inAddressPhase = true) ∧
    (s.pc = .x0 → s.inDataPhase = true → s.phase = .none → s.dir = .write →
      ∃ t, exec (.writeByte s.arg) s = .next t ∧ t.inDataPhase = true ∧ t.phase = .tx s.arg) ∧
    (s.pc = .a2 → s.op = 0x06 → s.inDataPhase = true →
      ∃ t, exec .readByteAck s = .next t ∧ t.inDataPhase = true ∧ t.phase = .rx) ∧
    (s.pc = .a2 → s.op = 0x07 → s.inDataPhase = true →
      ∃ t, exec .readByteNak s = .next t ∧ t.inDataPhase = true ∧ t.phase = .none) ∧
    (s.pc = .p0 → s.inDataPhase = true → s.phase = .none →
      ∃ t, exec .stop s = .next t ∧ t.inDataPhase = false ∧ t.towardIdle = true ∧ (engineStep d t).inIdle = true)

/-! ## The sequencer: steps -/

/-- At `READY` a request that is not reserved is accepted, whatever the rest of the state, without a register access, and a
reserved one refused (R125). While an operation runs `HOST` has no move there; that the model refuses a request presented
then, as `hostNotReady`, is the model's choice, log entry 10. -/
def Obligations.RequestAccepted : Prop :=
  ∀ (w : Word16) (s : State),
    (s.pc = .ready → reservedRequest w = false →
      hostTurn w s = .next { s with
        op := opcOf w, arg := opdOf w, rsp := none,
        pc := if opcOf w = 0x00 then .i0
          else if opcOf w = 0x01 ∨ opcOf w = 0x02 ∨ opcOf w = 0x03 then .s0
          else if opcOf w = 0x04 then .p0
          else if opcOf w = 0x05 then .x0
          else .a0 }) ∧
    (s.pc = .ready → reservedRequest w = true → hostTurn w s = .refused (.reservedRequest w)) ∧
    (s.pc ≠ .ready → hostTurn w s = .refused .hostNotReady)

/-- A step runs the decoded instruction: `HOST`'s turn the one its word decodes to, `SEQ`'s turn the one its latches
hold; and the steps `S0`, `P0`, `A2` run the command their byte decodes to, then move on. -/
def Obligations.StepRunsDecoded : Prop :=
  ∀ (s : State) (ms : List Move) (i : Instr),
    (∀ w, s.moves = .host w :: ms → s.pc = .ready → decodeReq w = .ok i → step s = exec i { s with moves := ms }) ∧
    (s.moves = .seq :: ms → s.pc ≠ .ready → decodeReq (s.op ++ s.arg) = .ok i →
      step s = exec i { s with moves := ms }) ∧
    (s.moves = .seq :: ms → s.pc = .s0 → (s.op = 0x01 ∨ s.op = 0x02 ∨ s.op = 0x03) → decodeCmd 0x08 = .ok i →
      step s = andThen (exec i { s with moves := ms }) fun t => .next { t with pc := .s1 }) ∧
    (s.moves = .seq :: ms → s.pc = .p0 → s.op = 0x04 → s.arg = 0x00 → decodeCmd 0x03 = .ok i →
      step s = andThen (exec i { s with moves := ms }) fun t => .next { t with pc := .p1 }) ∧
    (s.moves = .seq :: ms → s.pc = .a2 → s.op = 0x06 → s.arg = 0x00 → decodeCmd 0x02 = .ok i →
      step s = andThen (exec i { s with moves := ms }) fun t => .next { t with pc := .a3 }) ∧
    (s.moves = .seq :: ms → s.pc = .a2 → s.op = 0x07 → s.arg = 0x00 → decodeCmd 0x06 = .ok i →
      step s = andThen (exec i { s with moves := ms }) fun t => .next { t with pc := .a3 })

/-- R130: `init` at each of its labels completes, in every state. -/
def Obligations.InitSteps : Prop :=
  ∀ s : State,
    (s.pc = .ready → exec .init s = .next { s with op := 0x00, arg := 0x00, rsp := none, pc := .i0 }) ∧
    (s.op = 0x00 → s.arg = 0x00 →
      (s.pc = .i0 → exec .init s = .next { s with
        baud := Config.baudDiv, regLog := s.regLog ++ [.w .baud Config.baudDiv], pc := .i1 }) ∧
      (s.pc = .i1 → exec .init s = .next { s with
        rien := false, wien := false, enable := true, regLog := s.regLog ++ [.w .ctrl 0x01], pc := .i2 }) ∧
      (s.pc = .i2 → exec .init s = .next { s with
        busState := .idle, phase := .none, regLog := s.regLog ++ [.w .status 0x01], pc := .i3 }) ∧
      (s.pc = .i3 → exec .init s = .next { s with rsp := some 0x0000, pc := .ready }))

/-- R135, R136: `start` and `repeatedStart` at each of their labels complete, in every state; the error flags are tested
before the acknowledge bit and both give `NOT_ACCESSIBLE` (R164). -/
def Obligations.StartSteps : Prop :=
  ∀ (a : Byte) (i : Instr) (c : Byte) (s : State),
    (i = .start a ∧ c = 0x01) ∨ (i = .repeatedStart a ∧ c = 0x02) →
    (s.pc = .ready → exec i s = .next { s with op := c, arg := a, rsp := none, pc := .s0 }) ∧
    (s.op = c → s.arg = a →
      (s.pc = .s0 → s.enable = true → exec i s = .next { s with
        rif := false, wif := false, arblost := false, buserr := false, phase := .none,
        regLog := s.regLog ++ [.w .cmd 0x08], pc := .s1 }) ∧
      (s.pc = .s0 → s.enable = false → exec i s = .next { s with regLog := s.regLog ++ [.w .cmd 0x08], pc := .s1 }) ∧
      (s.pc = .s1 → s.enable = true → exec i s = .next { s with
        addr := a, rif := false, wif := false, arblost := false, buserr := false, phase := .addr a,
        regLog := s.regLog ++ [.w .addr a], pc := .s2 }) ∧
      (s.pc = .s1 → s.enable = false → exec i s = .next { s with
        addr := a, regLog := s.regLog ++ [.w .addr a], pc := .s2 }) ∧
      (s.pc = .s2 → exec i s = .next { s with
        st := s.statusByte, regLog := s.regLog ++ [.r .status s.statusByte],
        pc := if s.rif = true ∨ s.wif = true then .s3 else .s2 }) ∧
      (s.pc = .s3 → exec i s = .next { s with
        rsp := some (if s.st &&& 0x0C ≠ 0 then 0x0100 else if s.st &&& 0x10 ≠ 0 then 0x0100 else 0x0000),
        pc := .ready }))

/-- R137: `startWithRetry` at each of its labels completes, in every state; a failure goes to the wait `W4`, an idle bus
back to `S0`. -/
def Obligations.RetrySteps : Prop :=
  ∀ (a : Byte) (s : State),
    (s.pc = .ready → exec (.startWithRetry a) s = .next { s with op := 0x03, arg := a, rsp := none, pc := .s0 }) ∧
    (s.op = 0x03 → s.arg = a →
      (s.pc = .s0 → s.enable = true → exec (.startWithRetry a) s = .next { s with
        rif := false, wif := false, arblost := false, buserr := false, phase := .none,
        regLog := s.regLog ++ [.w .cmd 0x08], pc := .s1 }) ∧
      (s.pc = .s0 → s.enable = false → exec (.startWithRetry a) s = .next { s with
        regLog := s.regLog ++ [.w .cmd 0x08], pc := .s1 }) ∧
      (s.pc = .s1 → s.enable = true → exec (.startWithRetry a) s = .next { s with
        addr := a, rif := false, wif := false, arblost := false, buserr := false, phase := .addr a,
        regLog := s.regLog ++ [.w .addr a], pc := .s2 }) ∧
      (s.pc = .s1 → s.enable = false → exec (.startWithRetry a) s = .next { s with
        addr := a, regLog := s.regLog ++ [.w .addr a], pc := .s2 }) ∧
      (s.pc = .s2 → exec (.startWithRetry a) s = .next { s with
        st := s.statusByte, regLog := s.regLog ++ [.r .status s.statusByte],
        pc := if s.rif = true ∨ s.wif = true then .s3 else .s2 }) ∧
      (s.pc = .s3 → s.st &&& 0x1C ≠ 0 → exec (.startWithRetry a) s = .next { s with pc := .w4 }) ∧
      (s.pc = .s3 → s.st &&& 0x1C = 0 → exec (.startWithRetry a) s = .next { s with
        rsp := some 0x0000, pc := .ready }) ∧
      (s.pc = .w4 → exec (.startWithRetry a) s = .next { s with
        st := s.statusByte, regLog := s.regLog ++ [.r .status s.statusByte],
        pc := if s.busState = .idle then .s0 else .w4 }))

/-- R145: `stop` at each of its labels; it faults at `P0` outside the data window and completes everywhere else. -/
def Obligations.StopSteps : Prop :=
  ∀ s : State,
    (s.pc = .ready → exec .stop s = .next { s with op := 0x04, arg := 0x00, rsp := none, pc := .p0 }) ∧
    (s.op = 0x04 → s.arg = 0x00 →
      (s.pc = .p0 → s.enable = true → s.busState = .owner → s.phase = .none → exec .stop s = .next { s with
        rif := false, wif := false, phase := .stop, regLog := s.regLog ++ [.w .cmd 0x03], pc := .p1 }) ∧
      (s.pc = .p0 → s.enable = false → exec .stop s = .next { s with regLog := s.regLog ++ [.w .cmd 0x03], pc := .p1 }) ∧
      (s.pc = .p0 → s.enable = true → ¬(s.busState = .owner ∧ s.phase = .none) →
        exec .stop s = .fault .undefinedSequence) ∧
      (s.pc = .p1 → exec .stop s = .next { s with
        st := s.statusByte, regLog := s.regLog ++ [.r .status s.statusByte],
        pc := if s.busState = .idle then .p2 else .p1 }) ∧
      (s.pc = .p2 → exec .stop s = .next { s with rsp := some 0x0000, pc := .ready }))

/-- R150: `writeByte` at each of its labels; it faults at `X0` outside its condition and completes everywhere else; the
answer is by the latched `RXACK` alone. -/
def Obligations.WriteByteSteps : Prop :=
  ∀ (d : Byte) (s : State),
    (s.pc = .ready → exec (.writeByte d) s = .next { s with op := 0x05, arg := d, rsp := none, pc := .x0 }) ∧
    (s.op = 0x05 → s.arg = d →
      (s.pc = .x0 → s.enable = true → s.busState = .owner → s.phase = .none → s.dir = .write →
        exec (.writeByte d) s = .next { s with
          data := d, rif := false, wif := false, phase := .tx d, regLog := s.regLog ++ [.w .data d], pc := .x1 }) ∧
      (s.pc = .x0 → s.enable = false → exec (.writeByte d) s = .next { s with
        data := d, regLog := s.regLog ++ [.w .data d], pc := .x1 }) ∧
      (s.pc = .x0 → s.enable = true → ¬(s.busState = .owner ∧ s.phase = .none ∧ s.dir = .write) →
        exec (.writeByte d) s = .fault .undefinedSequence) ∧
      (s.pc = .x1 → exec (.writeByte d) s = .next { s with
        st := s.statusByte, regLog := s.regLog ++ [.r .status s.statusByte],
        pc := if s.wif = true then .x2 else .x1 }) ∧
      (s.pc = .x2 → exec (.writeByte d) s = .next { s with
        rsp := some (if s.st &&& 0x10 = 0 then 0x0000 else 0x0200), pc := .ready }))

/-- R155, R156: `readByteAck` and `readByteNak` at each of their labels; they fault at `A2` outside the condition of their
command and complete everywhere else; the byte answered is the one captured before the command. -/
def Obligations.ReadSteps : Prop :=
  ∀ (i : Instr) (c v : Byte) (s : State),
    (i = .readByteAck ∧ c = 0x06 ∧ v = 0x02) ∨ (i = .readByteNak ∧ c = 0x07 ∧ v = 0x06) →
    (s.pc = .ready → exec i s = .next { s with op := c, arg := 0x00, rsp := none, pc := .a0 }) ∧
    (s.op = c → s.arg = 0x00 →
      (s.pc = .a0 → exec i s = .next { s with
        st := s.statusByte, regLog := s.regLog ++ [.r .status s.statusByte],
        pc := if s.rif = true then .a1 else .a0 }) ∧
      (s.pc = .a1 → exec i s = .next { s with
        rdata := s.data, regLog := s.regLog ++ [.r .data s.data], pc := .a2 }) ∧
      (s.pc = .a2 → s.enable = true → s.busState = .owner → s.phase = .none → s.dir = .read → s.rif = true →
        exec i s = .next { s with
          rif := false, wif := false, phase := if v = 0x02 then .rx else .none,
          busLog := s.busLog ++ [if v = 0x02 then .ackOut else .nakOut],
          regLog := s.regLog ++ [.w .cmd v], pc := .a3 }) ∧
      (s.pc = .a2 → s.enable = false → exec i s = .next { s with regLog := s.regLog ++ [.w .cmd v], pc := .a3 }) ∧
      (s.pc = .a2 → s.enable = true →
        ¬(s.busState = .owner ∧ s.phase = .none ∧ s.dir = .read ∧ s.rif = true) →
        exec i s = .fault .undefinedSequence) ∧
      (s.pc = .a3 → exec i s = .next { s with rsp := some (0x00#8 ++ s.rdata), pc := .ready }))

/-! ## The sequencer: whole operations -/

/-- `init` always answers, after exactly four steps of `SEQ`, from every state and under every interleaving of `SEQ`, `CTL`
and `ENV`: not before the fourth, and then with `OK`, the divisor, `CTRL` and the forced idle written, no phase posted and
`ADDR` as it was; the bus is idle unless another master took it since (R130). With no turn of `CTL` or `ENV` in between,
nothing else of the block is changed: the flags set before it survive. -/
def Obligations.InitRun : Prop :=
  (∀ (ms : List Move) (s : State), (∀ m ∈ ms, isInternal m = true) → s.pc = .ready → ms.count Move.seq ≤ 4 →
    ∃ t, runMoves (.host 0x0000 :: ms) s = .next t ∧
      (ms.count Move.seq < 4 → t.pc ≠ .ready ∧ t.rsp = none) ∧
      (ms.count Move.seq = 4 →
        t.pc = .ready ∧ t.rsp = some 0x0000 ∧ t.baud = Config.baudDiv ∧ t.ctrlByte = 0x01 ∧ t.phase = .none ∧
        (t.busState = .idle ∨ (t.busState = .busy ∧ Move.envTake ∈ ms)) ∧ t.addr = s.addr ∧
        t.regLog = s.regLog ++ [.w .baud Config.baudDiv, .w .ctrl 0x01, .w .status 0x01])) ∧
  ∀ s : State, s.pc = .ready →
    runMoves [.host 0x0000, .seq, .seq, .seq, .seq] s = .next { s with
      baud := Config.baudDiv, rien := false, wien := false, enable := true, busState := .idle, phase := .none,
      op := 0x00, arg := 0x00, rsp := some 0x0000, pc := .ready,
      regLog := s.regLog ++ [.w .baud Config.baudDiv, .w .ctrl 0x01, .w .status 0x01] }

/-- `start` and `repeatedStart` over a bus that is idle or already owned, for every address byte and every answer
(vectors V1, V2; R135, R136): `OK` exactly when the slave acknowledged and, in the read direction, the first byte
arrived, whatever the acknowledge bit after an error; a plain start from an idle bus, a repeated start otherwise. -/
def Obligations.StartRun : Prop :=
  ∀ (c a : Byte) (d : Draws) (s : State), (c = 0x01 ∨ c = 0x02) → s.pc = .ready → s.enable = true →
    (s.busState = .idle ∨ s.busState = .owner) →
    ∃ t, runMoves [.host (c ++ a), .seq, .seq, .engine d, .seq, .seq] s = .next t ∧ t.pc = .ready ∧
      (∃ l, t.busLog = s.busLog ++ (if s.busState = .idle then .start else .repStart) :: .addrByte a :: l) ∧
      t.regLog = s.regLog ++ [.w .cmd 0x08, .w .addr a, .r .status t.st] ∧
      (d.ans = .ack → a[0] = false →
        t.rsp = some 0x0000 ∧ t.st = 0x42 ∧ t.statusByte = 0x42 ∧ t.phase = .none ∧ t.dir = .write) ∧
      (∀ b, d.ans = .ack → a[0] = true → d.rx = .byte b →
        t.rsp = some 0x0000 ∧ t.st = 0x82 ∧ t.statusByte = 0x82 ∧ t.phase = .none ∧ t.dir = .read ∧ t.data = b) ∧
      (d.ans = .nak → t.rsp = some 0x0100 ∧ t.st = 0x52 ∧ t.phase = .stop) ∧
      (d.ans = .arbLost ∨ d.ans = .busErr → t.rsp = some 0x0100 ∧ t.phase = .none ∧ t.busState ≠ .owner) ∧
      (d.ans = .ack → a[0] = true → d.rx = .arbLost ∨ d.rx = .busErr →
        t.rsp = some 0x0100 ∧ t.phase = .none ∧ t.busState ≠ .owner)

/-- "`startWithRetry` against a slave that NAKs for N polls then ACKs on poll N+1 returns successfully after exactly N+1
internal attempts and never returns a failure" (vector V3, R137), for every N, every address byte and every value
drawn besides the answers, from `S0` with an idle bus; the draws the engine asks for are the script `[Nak]*N ++ [Ack]`, and
the first byte in the read direction. -/
def Obligations.RetryAttempts : Prop :=
  ∀ (a : Byte) (naks : List (Draws × Draws)) (d : Draws) (s : State),
    s.pc = .s0 → s.op = 0x03 → s.arg = a → s.enable = true → s.busState = .idle →
    (∀ x ∈ naks, x.1.ans = .nak) → drawsAccept a d →
    ∃ t new, runMoves (naks.flatMap (fun x => failedAttempt x.1 x.2) ++ lastAttempt d) s = .next t ∧
      t.pc = .ready ∧ t.rsp = some 0x0000 ∧ t.busState = .owner ∧ t.phase = .none ∧
      t.regLog = s.regLog ++ new ∧
      new.count (.w .addr a) = naks.length + 1 ∧ new.count (.w .cmd 0x08) = naks.length + 1 ∧
      (dirBit a = false →
        drawsTaken (naks.flatMap (fun x => failedAttempt x.1 x.2) ++ lastAttempt d) s =
          List.replicate naks.length (.answer .nak) ++ [.answer .ack] ∧
        t.busLog = s.busLog ++
          (List.replicate naks.length [BusEvent.start, .addrByte a, .nakIn, .stop]).flatten ++
          [.start, .addrByte a, .ackIn]) ∧
      (∀ b, dirBit a = true → d.rx = .byte b →
        drawsTaken (naks.flatMap (fun x => failedAttempt x.1 x.2) ++ lastAttempt d) s =
          List.replicate naks.length (.answer .nak) ++ [.answer .ack, .rx (.byte b)] ∧
        t.busLog = s.busLog ++
          (List.replicate naks.length [BusEvent.start, .addrByte a, .nakIn, .stop]).flatten ++
          [.start, .addrByte a, .ackIn, .rxData b])

/-- R145: a `stop` on an open transaction, with the stop phase performed before its first poll or after it. -/
def Obligations.StopRun : Prop :=
  ∀ (d : Draws) (s : State), s.pc = .ready → s.enable = true → s.busState = .owner → s.phase = .none →
    (∃ t, runMoves [.host 0x0400, .seq, .engine d, .seq, .seq] s = .next t ∧
      t.pc = .ready ∧ t.rsp = some 0x0000 ∧ t.busState = .idle ∧ t.phase = .none ∧ t.rif = false ∧ t.wif = false ∧
      t.rxack = s.rxack ∧ t.arblost = s.arblost ∧ t.buserr = s.buserr ∧ t.busLog = s.busLog ++ [.stop] ∧
      t.regLog = s.regLog ++ [.w .cmd 0x03, .r .status t.st] ∧ t.data = s.data ∧ t.addr = s.addr ∧ t.dir = s.dir) ∧
    (∃ t, runMoves [.host 0x0400, .seq, .seq, .engine d, .seq, .seq] s = .next t ∧
      t.pc = .ready ∧ t.rsp = some 0x0000 ∧ t.busState = .idle ∧ t.busLog = s.busLog ++ [.stop])

/-- R150: a `writeByte` inside the window, for every byte and every answer (vector V4): `OK` on an ACK,
`NOT_ACKNOWLEDGED` on a NAK, and after an error whatever `RXACK` was drawn, with the loss not reported. -/
def Obligations.WriteByteRun : Prop :=
  ∀ (b : Byte) (d : Draws) (s : State), s.pc = .ready → s.enable = true → s.busState = .owner → s.phase = .none →
    s.dir = .write →
    ∃ t, runMoves [.host (0x05#8 ++ b), .seq, .engine d, .seq, .seq] s = .next t ∧ t.pc = .ready ∧
      t.data = b ∧ t.wif = true ∧ t.rif = false ∧ t.phase = .none ∧
      t.regLog = s.regLog ++ [.w .data b, .r .status t.st] ∧
      (d.ans = .ack → t.rsp = some 0x0000 ∧ t.busState = .owner ∧ t.rxack = false ∧
        t.busLog = s.busLog ++ [.txData b, .ackIn]) ∧
      (d.ans = .nak → t.rsp = some 0x0200 ∧ t.busState = .owner ∧ t.rxack = true ∧
        t.busLog = s.busLog ++ [.txData b, .nakIn]) ∧
      (d.ans = .arbLost ∨ d.ans = .busErr →
        t.rsp = some (if d.rxack = true then 0x0200 else 0x0000) ∧ t.busState ≠ .owner)

/-- R155, R156: a `readByteAck` or `readByteNak` with a received byte waiting (vector V5): the data read precedes the
command, the byte answered is the one that waited, and only `readByteAck` asks for another. -/
def Obligations.ReadRun : Prop :=
  ∀ s : State, s.pc = .ready → s.enable = true → s.busState = .owner → s.phase = .none → s.dir = .read →
    s.rif = true →
    runMoves [.host 0x0600, .seq, .seq, .seq, .seq] s = .next { s with
      op := 0x06, arg := 0x00, st := s.statusByte, rdata := s.data, rsp := some (0x00#8 ++ s.data), pc := .ready,
      rif := false, wif := false, phase := .rx, busLog := s.busLog ++ [.ackOut],
      regLog := s.regLog ++ [.r .status s.statusByte, .r .data s.data, .w .cmd 0x02] } ∧
    runMoves [.host 0x0700, .seq, .seq, .seq, .seq] s = .next { s with
      op := 0x07, arg := 0x00, st := s.statusByte, rdata := s.data, rsp := some (0x00#8 ++ s.data), pc := .ready,
      rif := false, wif := false, phase := .none, busLog := s.busLog ++ [.nakOut],
      regLog := s.regLog ++ [.r .status s.statusByte, .r .data s.data, .w .cmd 0x06] }

/-! ## Invariants and whole-machine rules -/

/-- The state after reset meets the invariant. -/
def Obligations.ResetMeetsInvariant : Prop := State.reset.Inv = true

/-- Every step, of any agent, keeps the invariant `State.Inv`: what a posted phase, the flags, the micro-PC and the
response slot say of one another. -/
def Obligations.StepKeepsInvariant : Prop :=
  ∀ s t : State, s.Inv = true → step s = .next t → t.Inv = true

/-- The interrupt output (R24): its value, and that once no interrupt is enabled no step ever enables one or raises the
line. -/
def Obligations.InterruptLineStaysLow : Prop :=
  (∀ s : State, s.irq = true ↔
    s.enable = true ∧ ((s.rien = true ∧ s.rif = true) ∨ (s.wien = true ∧ s.wif = true))) ∧
  (∀ s t : State, s.rien = false → s.wien = false → step s = .next t →
    t.rien = false ∧ t.wien = false ∧ t.irq = false)

/-- When a step faults, in the states of the invariant: exactly at `X0`, `P0` or `A2`, while enabled, outside the
condition of the trigger written there (R95, R162; the labels are those of R145, R150, R155, R156). -/
def Obligations.FaultsExactlyOutsideWindow : Prop :=
  ∀ s : State, s.Inv = true →
    ((∃ r, step s = .fault r) ↔
      nextMove s = .seq ∧ s.enable = true ∧
        ((s.pc = .x0 ∧ ¬(s.busState = .owner ∧ s.phase = .none ∧ s.dir = .write)) ∨
          (s.pc = .p0 ∧ ¬(s.busState = .owner ∧ s.phase = .none)) ∨
          (s.pc = .a2 ∧ s.busState ≠ .owner)))

/-- When a step is refused, in the states of the invariant: exactly on a reserved request word at `READY` (R63), or on any word
while an operation runs, where R125 gives `HOST` no move and the refusal is the model's choice, log entry 10. No turn of
`SEQ`, `CTL`, `ENV` or the platform is ever refused. -/
def Obligations.RefusalsOnlyForHost : Prop :=
  ∀ (s : State) (r : Refusal), s.Inv = true →
    (step s = .refused r ↔
      ∃ w, nextMove s = .host w ∧
        ((s.pc ≠ .ready ∧ r = .hostNotReady) ∨
          (s.pc = .ready ∧ reservedRequest w = true ∧ r = .reservedRequest w)))

/-- The logs only grow (R23), and no step contains two register accesses (R126). That a reset event keeps the logs is the
model's choice, log entry 7. -/
def Obligations.LogsOnlyGrow : Prop :=
  ∀ s t : State, step s = .next t →
    ∃ l k, t.regLog = s.regLog ++ l ∧ l.length ≤ 1 ∧ t.busLog = s.busLog ++ k

/-- The only transfers of control (R129), turn by turn: a request leads from `READY` to an entry label; a step of `SEQ` to one
of its successors, a poll's own label among them, and `W4` is reached and left in `startWithRetry` alone; a turn of `CTL`
or `ENV` leaves the micro-PC; the reset event leads to `READY` (R180). That `SEQ`'s turn at `READY` changes nothing is the
model's choice, log entry 6. -/
def Obligations.ControlFlow : Prop :=
  ∀ s t : State, step s = .next t →
    (∀ w, nextMove s = .host w → s.pc = .ready ∧ t.pc ∈ MicroPc.ready.successors) ∧
    (nextMove s = .seq →
      (s.pc = .ready ∧ t.pc = .ready) ∨
      (s.pc ≠ .ready ∧ t.pc ∈ s.pc.successors ∧ (s.pc = .w4 ∨ t.pc = .w4 → s.op = 0x03))) ∧
    ((∃ d, nextMove s = .engine d) ∨ nextMove s = .envFree ∨ nextMove s = .envTake → t.pc = s.pc) ∧
    (nextMove s = .reset → t.pc = .ready)

/-- R64: the responses each instruction can give, and no other; `startWithRetry` never returns a failure (R137). -/
def Obligations.ResponseWords : Prop :=
  ∀ (i : Instr) (s t : State), exec i s = .next t →
    ∀ w, t.rsp = some w → s.rsp = some w ∨ allowedResponse i w = true

/-- The decision steps `S3` and `X2` see the flags as they still are (R127), in the states of the invariant. A step that
arrives or stays at one leaves the tests of the latched status equal to the flags of that moment; and what the decision
answers is what the current `ARBLOST`, `BUSERR` and `RXACK` say, however many turns the engine and the environment took
since the poll. -/
def Obligations.DecisionsSeeCurrentFlags : Prop :=
  (∀ s t : State, s.Inv = true → step s = .next t →
    (t.pc = .s3 → errSet t.st = (t.arblost || t.buserr) ∧ nakSet t.st = t.rxack) ∧
    (t.pc = .x2 → nakSet t.st = t.rxack)) ∧
  (∀ s : State, s.Inv = true →
    (∀ i, (i = .start s.arg ∧ s.op = 0x01) ∨ (i = .repeatedStart s.arg ∧ s.op = 0x02) → s.pc = .s3 →
      exec i s = .next { s with
        rsp := some (if s.arblost = true ∨ s.buserr = true ∨ s.rxack = true then 0x0100 else 0x0000), pc := .ready }) ∧
    (s.pc = .s3 → s.op = 0x03 → s.arblost = true ∨ s.buserr = true ∨ s.rxack = true →
      exec (.startWithRetry s.arg) s = .next { s with pc := .w4 }) ∧
    (s.pc = .s3 → s.op = 0x03 → s.arblost = false → s.buserr = false → s.rxack = false →
      exec (.startWithRetry s.arg) s = .next { s with rsp := some 0x0000, pc := .ready }) ∧
    (s.pc = .x2 → exec (.writeByte s.arg) s = .next { s with
      rsp := some (if s.rxack = true then 0x0200 else 0x0000), pc := .ready }))

/-- A caller that respects the hazards H2 to H5 of R183 meets no fault: a data-phase operation accepted inside its window
runs without one under every interleaving of `SEQ`, `CTL` and `ENV`, however long. -/
def Obligations.NoFaultInsideWindow : Prop :=
  ∀ (ms : List Move) (s : State), (∀ m ∈ ms, isInternal m = true) → s.enable = true → s.busState = .owner →
    ((s.pc = .x0 ∧ s.op = 0x05 ∧ s.phase = .none ∧ s.dir = .write) ∨
      (s.pc = .p0 ∧ s.op = 0x04 ∧ s.arg = 0x00 ∧ s.phase = .none) ∨
      (s.pc = .a0 ∧ (s.op = 0x06 ∨ s.op = 0x07) ∧ s.arg = 0x00 ∧ s.dir = .read ∧
        (s.phase = .none ∨ (s.phase = .rx ∧ s.rif = false)))) →
    ∃ t, runMoves ms s = .next t

/-- Before `init` (controller disabled) every other operation spins for ever in its first poll, under every interleaving of
`SEQ`, `CTL` and `ENV`: it never answers, and it never stands past that poll, `S2` of the start family, `P1` of `stop`, `X1`
of `writeByte`, `A0` of the reads (R80, R168, R182). -/
def Obligations.DisabledNeverAnswers : Prop :=
  ∀ (w : Word16) (ms : List Move) (s : State), reservedRequest w = false → opcOf w ≠ 0x00 →
    (∀ m ∈ ms, isInternal m = true) → s.pc = .ready → s.enable = false → s.statusByte = 0x00 → s.phase = .none →
    ∃ t, runMoves (.host w :: ms) s = .next t ∧ t.rsp = none ∧
      (opcOf w = 0x01 ∨ opcOf w = 0x02 ∨ opcOf w = 0x03 → t.pc ∈ [MicroPc.s0, .s1, .s2]) ∧
      (opcOf w = 0x04 → t.pc ∈ [MicroPc.p0, .p1]) ∧
      (opcOf w = 0x05 → t.pc ∈ [MicroPc.x0, .x1]) ∧
      (opcOf w = 0x06 ∨ opcOf w = 0x07 → t.pc = .a0) ∧
      (2 ≤ ms.count Move.seq → t.pc = .s2 ∨ t.pc = .p1 ∨ t.pc = .x1 ∨ t.pc = .a0)

/-- A read with no byte waiting and none asked for spins for ever in `A0`, under every interleaving: after `readByteNak`, in
the write direction, after a failed start whether its stop phase is still posted or not, after an error (R93, R156, R168). -/
def Obligations.ReadWithoutByteNeverAnswers : Prop :=
  ∀ (ms : List Move) (s : State), (∀ m ∈ ms, isInternal m = true) → s.pc = .a0 → (s.op = 0x06 ∨ s.op = 0x07) →
    s.arg = 0x00 → s.rif = false → s.quiet = true →
    ∃ t, runMoves ms s = .next t ∧ t.pc = .a0 ∧ t.rsp = s.rsp

/-- Inside the data window `writeByte` always answers, in every environment, under the fairness of R119 (R150); where no
answer is an error (R120), with the transaction still open and by the acknowledge bit. -/
def Obligations.WriteByteAnswersUnderFairness : Prop :=
  ∀ (σ : Nat → Move) (s : State), undisturbed σ → fairSeq σ → fairEngine σ →
    s.pc = .x0 → s.op = 0x05 → s.enable = true → s.busState = .owner → s.phase = .none → s.dir = .write →
    ∃ n t, runStream σ n s = .next t ∧ t.pc = .ready ∧ (t.rsp = some 0x0000 ∨ t.rsp = some 0x0200) ∧
      (envSingleMaster σ → envNoBusError σ → t.busState = .owner ∧ t.rsp = some (if t.rxack = true then 0x0200 else 0x0000))

/-- `start`, `repeatedStart` and `stop` answer under the fairness of R119 where no other master takes an idle bus: the
first two from a bus that is idle or owned with no phase posted but a stop, the third inside the data window (R119,
R168). -/
def Obligations.StartAndStopAnswerUnderFairness : Prop :=
  ∀ (σ : Nat → Move) (s : State), undisturbed σ → fairSeq σ → fairEngine σ → noTake σ → s.enable = true →
    ((s.pc = .s0 ∧ (s.op = 0x01 ∨ s.op = 0x02) ∧ (s.busState = .idle ∨ s.busState = .owner) ∧
        (s.phase = .none ∨ s.phase = .stop)) ∨
      (s.pc = .p0 ∧ s.op = 0x04 ∧ s.arg = 0x00 ∧ s.busState = .owner ∧ s.phase = .none)) →
    ∃ n t, runStream σ n s = .next t ∧ t.pc = .ready ∧ t.rsp.isSome = true

/-- `startWithRetry` answers, with success, from every bus state but the unknown one, under the fairness of R119 where no
other master takes an idle bus, a busy bus is released, and the slave eventually becomes accessible. The last premise is
the model's reading of `EnvEventuallyAcks` (R120), log entry 18: in the read direction an ACK whose first byte is an error
does not count as accepted. -/
def Obligations.RetryAnswersUnderFairness : Prop :=
  ∀ (σ : Nat → Move) (a : Byte) (s : State), undisturbed σ → fairSeq σ → fairEngine σ → noTake σ → envReleases σ →
    envEventuallyAcks σ s a → s.pc = .s0 → s.op = 0x03 → s.arg = a → s.enable = true → s.busState ≠ .unknown →
    (s.phase = .none ∨ s.phase = .stop) →
    ∃ n t, runStream σ n s = .next t ∧ t.pc = .ready ∧ t.rsp = some 0x0000

/-! ## Frames -/

/-- What a step of `init` leaves as it was: everything but `BAUD`, the three bits of `CTRL`, `BUSSTATE`, the phase,
`reg_log`, and of the sequencer the micro-PC, `op`, `arg` and `rsp` (R130). -/
def Obligations.FrameInit : Prop :=
  ∀ s t : State, exec .init s = .next t →
    t.rif = s.rif ∧ t.wif = s.wif ∧ t.rxack = s.rxack ∧ t.arblost = s.arblost ∧ t.buserr = s.buserr ∧
    t.addr = s.addr ∧ t.data = s.data ∧ t.dir = s.dir ∧ t.st = s.st ∧ t.rdata = s.rdata ∧
    t.busLog = s.busLog ∧ t.moves = s.moves ∧ t.drawCount = s.drawCount

/-- What a step of the start family leaves as it was: everything but `ADDR`, the flags `RIF`, `WIF`, `ARBLOST`, `BUSERR`,
the phase, `reg_log`, and of the sequencer the micro-PC, `op`, `arg`, `st` and `rsp` (R135 to R137). -/
def Obligations.FrameStartFamily : Prop :=
  ∀ (i : Instr) (a : Byte) (s t : State), i = .start a ∨ i = .repeatedStart a ∨ i = .startWithRetry a →
    exec i s = .next t →
    t.rien = s.rien ∧ t.wien = s.wien ∧ t.enable = s.enable ∧ t.rxack = s.rxack ∧ t.busState = s.busState ∧
    t.baud = s.baud ∧ t.data = s.data ∧ t.dir = s.dir ∧ t.rdata = s.rdata ∧
    t.busLog = s.busLog ∧ t.moves = s.moves ∧ t.drawCount = s.drawCount

/-- What a step of `stop`, `writeByte`, `readByteAck` or `readByteNak` leaves as it was: everything but `RIF`, `WIF`, the
phase, `reg_log`, and of the sequencer the micro-PC, `op`, `arg`, `st` and `rsp`; `DATA` is written by `writeByte` alone,
`SEQ.rdata` and `bus_log` by the reads alone (R145, R150, R155, R156). -/
def Obligations.FrameDataPhase : Prop :=
  ∀ (i : Instr) (d : Byte) (s t : State),
    i = .stop ∨ i = .writeByte d ∨ i = .readByteAck ∨ i = .readByteNak → exec i s = .next t →
    t.rien = s.rien ∧ t.wien = s.wien ∧ t.enable = s.enable ∧ t.rxack = s.rxack ∧ t.arblost = s.arblost ∧
    t.buserr = s.buserr ∧ t.busState = s.busState ∧ t.baud = s.baud ∧ t.addr = s.addr ∧ t.dir = s.dir ∧
    t.moves = s.moves ∧ t.drawCount = s.drawCount ∧
    (i ≠ .writeByte d → t.data = s.data) ∧
    (i ≠ .readByteAck → i ≠ .readByteNak → t.rdata = s.rdata ∧ t.busLog = s.busLog)

/-- What a command leaves as it was: everything but `RIF`, `WIF`, the phase and `reg_log`; the error flags are cleared by
`FLUSH` alone, and only the two receive commands emit a bus event (R90 to R93). -/
def Obligations.FrameCommands : Prop :=
  ∀ (i : Instr) (s t : State), i = .cmdFlush ∨ i = .cmdStop ∨ i = .cmdRecvAck ∨ i = .cmdRecvNak →
    exec i s = .next t →
    t.rien = s.rien ∧ t.wien = s.wien ∧ t.enable = s.enable ∧ t.rxack = s.rxack ∧ t.busState = s.busState ∧
    t.baud = s.baud ∧ t.addr = s.addr ∧ t.data = s.data ∧ t.dir = s.dir ∧ t.pc = s.pc ∧ t.op = s.op ∧
    t.arg = s.arg ∧ t.st = s.st ∧ t.rdata = s.rdata ∧ t.rsp = s.rsp ∧ t.moves = s.moves ∧
    t.drawCount = s.drawCount ∧
    (i ≠ .cmdFlush → t.arblost = s.arblost ∧ t.buserr = s.buserr) ∧
    (i = .cmdFlush ∨ i = .cmdStop → t.busLog = s.busLog)
end

