-- ==== Sys2Proof/Laws/Access.lean ====
section
/-! SUPPORT. The two forms of an access agree: by register, as the micro-programs write it, and by address, as R7 and
R41 write it. -/

namespace Sys2Proof.Machine

/-- Different registers stand at different addresses (R41). -/
theorem Reg.address_inj {r q : Reg} (h : r.address = q.address) : r = q := by
  cases r <;> cases q <;> simp [Reg.address, Reg.offset] at h ⊢

/-- Two registers have one address exactly when they are one register. -/
theorem Reg.address_beq (q r : Reg) : (q.address == r.address) = decide (q = r) := by
  by_cases h : q = r
  · simp [h]
  · simpa [h] using fun e => h (Reg.address_inj e)

/-- The register at `REG_r` is `r`. -/
@[simp] theorem regAt_address (r : Reg) : regAt r.address = some r := by
  cases r <;> simp [regAt, Reg.all, List.find?, Reg.address_beq]

/-- A register is found only at its own address. -/
theorem regAt_eq_some {a : Address} {r : Reg} (h : regAt a = some r) : a = r.address := by
  have := List.find?_some h
  simpa using (beq_iff_eq.mp this).symm

/-- `MemWrite(REG_r, 1, v)` is the write of register `r`. -/
@[simp] theorem memWrite_address (r : Reg) (v : Byte) (s : State) :
    memWrite r.address 1 v s = seqWrite r v s := by
  simp [memWrite]

/-- `MemRead(REG_r, 1)` is the read of register `r`. -/
@[simp] theorem memRead_address (r : Reg) (s : State) (k : Byte → State → Result) :
    memRead r.address 1 s k = k (readValue r s) (seqRead r s) := by
  simp [memRead]

end Sys2Proof.Machine
end

