-- ==== Sys2Proof/Laws/State.lean ====
section
/-! SUPPORT. One lemma for each field of `State` after each small update of `Machine/Ops.lean`: what the update sets,
and that it leaves the rest alone. -/

namespace Sys2Proof.Machine

variable (s : State)

/-! ## `goto` -/

@[simp] theorem State.goto_rien (l : MicroPc) : (s.goto l).rien = s.rien := rfl
@[simp] theorem State.goto_wien (l : MicroPc) : (s.goto l).wien = s.wien := rfl
@[simp] theorem State.goto_enable (l : MicroPc) : (s.goto l).enable = s.enable := rfl
@[simp] theorem State.goto_rif (l : MicroPc) : (s.goto l).rif = s.rif := rfl
@[simp] theorem State.goto_wif (l : MicroPc) : (s.goto l).wif = s.wif := rfl
@[simp] theorem State.goto_rxack (l : MicroPc) : (s.goto l).rxack = s.rxack := rfl
@[simp] theorem State.goto_arblost (l : MicroPc) : (s.goto l).arblost = s.arblost := rfl
@[simp] theorem State.goto_buserr (l : MicroPc) : (s.goto l).buserr = s.buserr := rfl
@[simp] theorem State.goto_busState (l : MicroPc) : (s.goto l).busState = s.busState := rfl
@[simp] theorem State.goto_baud (l : MicroPc) : (s.goto l).baud = s.baud := rfl
@[simp] theorem State.goto_addr (l : MicroPc) : (s.goto l).addr = s.addr := rfl
@[simp] theorem State.goto_data (l : MicroPc) : (s.goto l).data = s.data := rfl
@[simp] theorem State.goto_phase (l : MicroPc) : (s.goto l).phase = s.phase := rfl
@[simp] theorem State.goto_dir (l : MicroPc) : (s.goto l).dir = s.dir := rfl
@[simp] theorem State.goto_pc (l : MicroPc) : (s.goto l).pc = l := rfl
@[simp] theorem State.goto_op (l : MicroPc) : (s.goto l).op = s.op := rfl
@[simp] theorem State.goto_arg (l : MicroPc) : (s.goto l).arg = s.arg := rfl
@[simp] theorem State.goto_st (l : MicroPc) : (s.goto l).st = s.st := rfl
@[simp] theorem State.goto_rdata (l : MicroPc) : (s.goto l).rdata = s.rdata := rfl
@[simp] theorem State.goto_rsp (l : MicroPc) : (s.goto l).rsp = s.rsp := rfl
@[simp] theorem State.goto_regLog (l : MicroPc) : (s.goto l).regLog = s.regLog := rfl
@[simp] theorem State.goto_busLog (l : MicroPc) : (s.goto l).busLog = s.busLog := rfl
@[simp] theorem State.goto_moves (l : MicroPc) : (s.goto l).moves = s.moves := rfl
@[simp] theorem State.goto_drawCount (l : MicroPc) : (s.goto l).drawCount = s.drawCount := rfl

/-! ## `logReg` -/

@[simp] theorem State.logReg_rien (e : RegEntry) : (s.logReg e).rien = s.rien := rfl
@[simp] theorem State.logReg_wien (e : RegEntry) : (s.logReg e).wien = s.wien := rfl
@[simp] theorem State.logReg_enable (e : RegEntry) : (s.logReg e).enable = s.enable := rfl
@[simp] theorem State.logReg_rif (e : RegEntry) : (s.logReg e).rif = s.rif := rfl
@[simp] theorem State.logReg_wif (e : RegEntry) : (s.logReg e).wif = s.wif := rfl
@[simp] theorem State.logReg_rxack (e : RegEntry) : (s.logReg e).rxack = s.rxack := rfl
@[simp] theorem State.logReg_arblost (e : RegEntry) : (s.logReg e).arblost = s.arblost := rfl
@[simp] theorem State.logReg_buserr (e : RegEntry) : (s.logReg e).buserr = s.buserr := rfl
@[simp] theorem State.logReg_busState (e : RegEntry) : (s.logReg e).busState = s.busState := rfl
@[simp] theorem State.logReg_baud (e : RegEntry) : (s.logReg e).baud = s.baud := rfl
@[simp] theorem State.logReg_addr (e : RegEntry) : (s.logReg e).addr = s.addr := rfl
@[simp] theorem State.logReg_data (e : RegEntry) : (s.logReg e).data = s.data := rfl
@[simp] theorem State.logReg_phase (e : RegEntry) : (s.logReg e).phase = s.phase := rfl
@[simp] theorem State.logReg_dir (e : RegEntry) : (s.logReg e).dir = s.dir := rfl
@[simp] theorem State.logReg_pc (e : RegEntry) : (s.logReg e).pc = s.pc := rfl
@[simp] theorem State.logReg_op (e : RegEntry) : (s.logReg e).op = s.op := rfl
@[simp] theorem State.logReg_arg (e : RegEntry) : (s.logReg e).arg = s.arg := rfl
@[simp] theorem State.logReg_st (e : RegEntry) : (s.logReg e).st = s.st := rfl
@[simp] theorem State.logReg_rdata (e : RegEntry) : (s.logReg e).rdata = s.rdata := rfl
@[simp] theorem State.logReg_rsp (e : RegEntry) : (s.logReg e).rsp = s.rsp := rfl
@[simp] theorem State.logReg_regLog (e : RegEntry) : (s.logReg e).regLog = s.regLog ++ [e] := rfl
@[simp] theorem State.logReg_busLog (e : RegEntry) : (s.logReg e).busLog = s.busLog := rfl
@[simp] theorem State.logReg_moves (e : RegEntry) : (s.logReg e).moves = s.moves := rfl
@[simp] theorem State.logReg_drawCount (e : RegEntry) : (s.logReg e).drawCount = s.drawCount := rfl

/-! ## `emit` -/

@[simp] theorem State.emit_rien (e : BusEvent) : (s.emit e).rien = s.rien := rfl
@[simp] theorem State.emit_wien (e : BusEvent) : (s.emit e).wien = s.wien := rfl
@[simp] theorem State.emit_enable (e : BusEvent) : (s.emit e).enable = s.enable := rfl
@[simp] theorem State.emit_rif (e : BusEvent) : (s.emit e).rif = s.rif := rfl
@[simp] theorem State.emit_wif (e : BusEvent) : (s.emit e).wif = s.wif := rfl
@[simp] theorem State.emit_rxack (e : BusEvent) : (s.emit e).rxack = s.rxack := rfl
@[simp] theorem State.emit_arblost (e : BusEvent) : (s.emit e).arblost = s.arblost := rfl
@[simp] theorem State.emit_buserr (e : BusEvent) : (s.emit e).buserr = s.buserr := rfl
@[simp] theorem State.emit_busState (e : BusEvent) : (s.emit e).busState = s.busState := rfl
@[simp] theorem State.emit_baud (e : BusEvent) : (s.emit e).baud = s.baud := rfl
@[simp] theorem State.emit_addr (e : BusEvent) : (s.emit e).addr = s.addr := rfl
@[simp] theorem State.emit_data (e : BusEvent) : (s.emit e).data = s.data := rfl
@[simp] theorem State.emit_phase (e : BusEvent) : (s.emit e).phase = s.phase := rfl
@[simp] theorem State.emit_dir (e : BusEvent) : (s.emit e).dir = s.dir := rfl
@[simp] theorem State.emit_pc (e : BusEvent) : (s.emit e).pc = s.pc := rfl
@[simp] theorem State.emit_op (e : BusEvent) : (s.emit e).op = s.op := rfl
@[simp] theorem State.emit_arg (e : BusEvent) : (s.emit e).arg = s.arg := rfl
@[simp] theorem State.emit_st (e : BusEvent) : (s.emit e).st = s.st := rfl
@[simp] theorem State.emit_rdata (e : BusEvent) : (s.emit e).rdata = s.rdata := rfl
@[simp] theorem State.emit_rsp (e : BusEvent) : (s.emit e).rsp = s.rsp := rfl
@[simp] theorem State.emit_regLog (e : BusEvent) : (s.emit e).regLog = s.regLog := rfl
@[simp] theorem State.emit_busLog (e : BusEvent) : (s.emit e).busLog = s.busLog ++ [e] := rfl
@[simp] theorem State.emit_moves (e : BusEvent) : (s.emit e).moves = s.moves := rfl
@[simp] theorem State.emit_drawCount (e : BusEvent) : (s.emit e).drawCount = s.drawCount := rfl

/-! ## `clearIf` -/

@[simp] theorem State.clearIf_rien : s.clearIf.rien = s.rien := rfl
@[simp] theorem State.clearIf_wien : s.clearIf.wien = s.wien := rfl
@[simp] theorem State.clearIf_enable : s.clearIf.enable = s.enable := rfl
@[simp] theorem State.clearIf_rif : s.clearIf.rif = false := rfl
@[simp] theorem State.clearIf_wif : s.clearIf.wif = false := rfl
@[simp] theorem State.clearIf_rxack : s.clearIf.rxack = s.rxack := rfl
@[simp] theorem State.clearIf_arblost : s.clearIf.arblost = s.arblost := rfl
@[simp] theorem State.clearIf_buserr : s.clearIf.buserr = s.buserr := rfl
@[simp] theorem State.clearIf_busState : s.clearIf.busState = s.busState := rfl
@[simp] theorem State.clearIf_baud : s.clearIf.baud = s.baud := rfl
@[simp] theorem State.clearIf_addr : s.clearIf.addr = s.addr := rfl
@[simp] theorem State.clearIf_data : s.clearIf.data = s.data := rfl
@[simp] theorem State.clearIf_phase : s.clearIf.phase = s.phase := rfl
@[simp] theorem State.clearIf_dir : s.clearIf.dir = s.dir := rfl
@[simp] theorem State.clearIf_pc : s.clearIf.pc = s.pc := rfl
@[simp] theorem State.clearIf_op : s.clearIf.op = s.op := rfl
@[simp] theorem State.clearIf_arg : s.clearIf.arg = s.arg := rfl
@[simp] theorem State.clearIf_st : s.clearIf.st = s.st := rfl
@[simp] theorem State.clearIf_rdata : s.clearIf.rdata = s.rdata := rfl
@[simp] theorem State.clearIf_rsp : s.clearIf.rsp = s.rsp := rfl
@[simp] theorem State.clearIf_regLog : s.clearIf.regLog = s.regLog := rfl
@[simp] theorem State.clearIf_busLog : s.clearIf.busLog = s.busLog := rfl
@[simp] theorem State.clearIf_moves : s.clearIf.moves = s.moves := rfl
@[simp] theorem State.clearIf_drawCount : s.clearIf.drawCount = s.drawCount := rfl

/-! ## `clearErr` -/

@[simp] theorem State.clearErr_rien : s.clearErr.rien = s.rien := rfl
@[simp] theorem State.clearErr_wien : s.clearErr.wien = s.wien := rfl
@[simp] theorem State.clearErr_enable : s.clearErr.enable = s.enable := rfl
@[simp] theorem State.clearErr_rif : s.clearErr.rif = s.rif := rfl
@[simp] theorem State.clearErr_wif : s.clearErr.wif = s.wif := rfl
@[simp] theorem State.clearErr_rxack : s.clearErr.rxack = s.rxack := rfl
@[simp] theorem State.clearErr_arblost : s.clearErr.arblost = false := rfl
@[simp] theorem State.clearErr_buserr : s.clearErr.buserr = false := rfl
@[simp] theorem State.clearErr_busState : s.clearErr.busState = s.busState := rfl
@[simp] theorem State.clearErr_baud : s.clearErr.baud = s.baud := rfl
@[simp] theorem State.clearErr_addr : s.clearErr.addr = s.addr := rfl
@[simp] theorem State.clearErr_data : s.clearErr.data = s.data := rfl
@[simp] theorem State.clearErr_phase : s.clearErr.phase = s.phase := rfl
@[simp] theorem State.clearErr_dir : s.clearErr.dir = s.dir := rfl
@[simp] theorem State.clearErr_pc : s.clearErr.pc = s.pc := rfl
@[simp] theorem State.clearErr_op : s.clearErr.op = s.op := rfl
@[simp] theorem State.clearErr_arg : s.clearErr.arg = s.arg := rfl
@[simp] theorem State.clearErr_st : s.clearErr.st = s.st := rfl
@[simp] theorem State.clearErr_rdata : s.clearErr.rdata = s.rdata := rfl
@[simp] theorem State.clearErr_rsp : s.clearErr.rsp = s.rsp := rfl
@[simp] theorem State.clearErr_regLog : s.clearErr.regLog = s.regLog := rfl
@[simp] theorem State.clearErr_busLog : s.clearErr.busLog = s.busLog := rfl
@[simp] theorem State.clearErr_moves : s.clearErr.moves = s.moves := rfl
@[simp] theorem State.clearErr_drawCount : s.clearErr.drawCount = s.drawCount := rfl

/-! ## `post` -/

@[simp] theorem State.post_rien (p : Phase) : (s.post p).rien = s.rien := rfl
@[simp] theorem State.post_wien (p : Phase) : (s.post p).wien = s.wien := rfl
@[simp] theorem State.post_enable (p : Phase) : (s.post p).enable = s.enable := rfl
@[simp] theorem State.post_rif (p : Phase) : (s.post p).rif = s.rif := rfl
@[simp] theorem State.post_wif (p : Phase) : (s.post p).wif = s.wif := rfl
@[simp] theorem State.post_rxack (p : Phase) : (s.post p).rxack = s.rxack := rfl
@[simp] theorem State.post_arblost (p : Phase) : (s.post p).arblost = s.arblost := rfl
@[simp] theorem State.post_buserr (p : Phase) : (s.post p).buserr = s.buserr := rfl
@[simp] theorem State.post_busState (p : Phase) : (s.post p).busState = s.busState := rfl
@[simp] theorem State.post_baud (p : Phase) : (s.post p).baud = s.baud := rfl
@[simp] theorem State.post_addr (p : Phase) : (s.post p).addr = s.addr := rfl
@[simp] theorem State.post_data (p : Phase) : (s.post p).data = s.data := rfl
@[simp] theorem State.post_phase (p : Phase) : (s.post p).phase = p := rfl
@[simp] theorem State.post_dir (p : Phase) : (s.post p).dir = s.dir := rfl
@[simp] theorem State.post_pc (p : Phase) : (s.post p).pc = s.pc := rfl
@[simp] theorem State.post_op (p : Phase) : (s.post p).op = s.op := rfl
@[simp] theorem State.post_arg (p : Phase) : (s.post p).arg = s.arg := rfl
@[simp] theorem State.post_st (p : Phase) : (s.post p).st = s.st := rfl
@[simp] theorem State.post_rdata (p : Phase) : (s.post p).rdata = s.rdata := rfl
@[simp] theorem State.post_rsp (p : Phase) : (s.post p).rsp = s.rsp := rfl
@[simp] theorem State.post_regLog (p : Phase) : (s.post p).regLog = s.regLog := rfl
@[simp] theorem State.post_busLog (p : Phase) : (s.post p).busLog = s.busLog := rfl
@[simp] theorem State.post_moves (p : Phase) : (s.post p).moves = s.moves := rfl
@[simp] theorem State.post_drawCount (p : Phase) : (s.post p).drawCount = s.drawCount := rfl

/-! ## `latchSt` -/

@[simp] theorem State.latchSt_rien (v : Byte) : (s.latchSt v).rien = s.rien := rfl
@[simp] theorem State.latchSt_wien (v : Byte) : (s.latchSt v).wien = s.wien := rfl
@[simp] theorem State.latchSt_enable (v : Byte) : (s.latchSt v).enable = s.enable := rfl
@[simp] theorem State.latchSt_rif (v : Byte) : (s.latchSt v).rif = s.rif := rfl
@[simp] theorem State.latchSt_wif (v : Byte) : (s.latchSt v).wif = s.wif := rfl
@[simp] theorem State.latchSt_rxack (v : Byte) : (s.latchSt v).rxack = s.rxack := rfl
@[simp] theorem State.latchSt_arblost (v : Byte) : (s.latchSt v).arblost = s.arblost := rfl
@[simp] theorem State.latchSt_buserr (v : Byte) : (s.latchSt v).buserr = s.buserr := rfl
@[simp] theorem State.latchSt_busState (v : Byte) : (s.latchSt v).busState = s.busState := rfl
@[simp] theorem State.latchSt_baud (v : Byte) : (s.latchSt v).baud = s.baud := rfl
@[simp] theorem State.latchSt_addr (v : Byte) : (s.latchSt v).addr = s.addr := rfl
@[simp] theorem State.latchSt_data (v : Byte) : (s.latchSt v).data = s.data := rfl
@[simp] theorem State.latchSt_phase (v : Byte) : (s.latchSt v).phase = s.phase := rfl
@[simp] theorem State.latchSt_dir (v : Byte) : (s.latchSt v).dir = s.dir := rfl
@[simp] theorem State.latchSt_pc (v : Byte) : (s.latchSt v).pc = s.pc := rfl
@[simp] theorem State.latchSt_op (v : Byte) : (s.latchSt v).op = s.op := rfl
@[simp] theorem State.latchSt_arg (v : Byte) : (s.latchSt v).arg = s.arg := rfl
@[simp] theorem State.latchSt_st (v : Byte) : (s.latchSt v).st = v := rfl
@[simp] theorem State.latchSt_rdata (v : Byte) : (s.latchSt v).rdata = s.rdata := rfl
@[simp] theorem State.latchSt_rsp (v : Byte) : (s.latchSt v).rsp = s.rsp := rfl
@[simp] theorem State.latchSt_regLog (v : Byte) : (s.latchSt v).regLog = s.regLog := rfl
@[simp] theorem State.latchSt_busLog (v : Byte) : (s.latchSt v).busLog = s.busLog := rfl
@[simp] theorem State.latchSt_moves (v : Byte) : (s.latchSt v).moves = s.moves := rfl
@[simp] theorem State.latchSt_drawCount (v : Byte) : (s.latchSt v).drawCount = s.drawCount := rfl

/-! ## `latchRdata` -/

@[simp] theorem State.latchRdata_rien (v : Byte) : (s.latchRdata v).rien = s.rien := rfl
@[simp] theorem State.latchRdata_wien (v : Byte) : (s.latchRdata v).wien = s.wien := rfl
@[simp] theorem State.latchRdata_enable (v : Byte) : (s.latchRdata v).enable = s.enable := rfl
@[simp] theorem State.latchRdata_rif (v : Byte) : (s.latchRdata v).rif = s.rif := rfl
@[simp] theorem State.latchRdata_wif (v : Byte) : (s.latchRdata v).wif = s.wif := rfl
@[simp] theorem State.latchRdata_rxack (v : Byte) : (s.latchRdata v).rxack = s.rxack := rfl
@[simp] theorem State.latchRdata_arblost (v : Byte) : (s.latchRdata v).arblost = s.arblost := rfl
@[simp] theorem State.latchRdata_buserr (v : Byte) : (s.latchRdata v).buserr = s.buserr := rfl
@[simp] theorem State.latchRdata_busState (v : Byte) : (s.latchRdata v).busState = s.busState := rfl
@[simp] theorem State.latchRdata_baud (v : Byte) : (s.latchRdata v).baud = s.baud := rfl
@[simp] theorem State.latchRdata_addr (v : Byte) : (s.latchRdata v).addr = s.addr := rfl
@[simp] theorem State.latchRdata_data (v : Byte) : (s.latchRdata v).data = s.data := rfl
@[simp] theorem State.latchRdata_phase (v : Byte) : (s.latchRdata v).phase = s.phase := rfl
@[simp] theorem State.latchRdata_dir (v : Byte) : (s.latchRdata v).dir = s.dir := rfl
@[simp] theorem State.latchRdata_pc (v : Byte) : (s.latchRdata v).pc = s.pc := rfl
@[simp] theorem State.latchRdata_op (v : Byte) : (s.latchRdata v).op = s.op := rfl
@[simp] theorem State.latchRdata_arg (v : Byte) : (s.latchRdata v).arg = s.arg := rfl
@[simp] theorem State.latchRdata_st (v : Byte) : (s.latchRdata v).st = s.st := rfl
@[simp] theorem State.latchRdata_rdata (v : Byte) : (s.latchRdata v).rdata = v := rfl
@[simp] theorem State.latchRdata_rsp (v : Byte) : (s.latchRdata v).rsp = s.rsp := rfl
@[simp] theorem State.latchRdata_regLog (v : Byte) : (s.latchRdata v).regLog = s.regLog := rfl
@[simp] theorem State.latchRdata_busLog (v : Byte) : (s.latchRdata v).busLog = s.busLog := rfl
@[simp] theorem State.latchRdata_moves (v : Byte) : (s.latchRdata v).moves = s.moves := rfl
@[simp] theorem State.latchRdata_drawCount (v : Byte) : (s.latchRdata v).drawCount = s.drawCount := rfl

/-! ## `useDraw` -/

@[simp] theorem State.useDraw_rien : s.useDraw.rien = s.rien := rfl
@[simp] theorem State.useDraw_wien : s.useDraw.wien = s.wien := rfl
@[simp] theorem State.useDraw_enable : s.useDraw.enable = s.enable := rfl
@[simp] theorem State.useDraw_rif : s.useDraw.rif = s.rif := rfl
@[simp] theorem State.useDraw_wif : s.useDraw.wif = s.wif := rfl
@[simp] theorem State.useDraw_rxack : s.useDraw.rxack = s.rxack := rfl
@[simp] theorem State.useDraw_arblost : s.useDraw.arblost = s.arblost := rfl
@[simp] theorem State.useDraw_buserr : s.useDraw.buserr = s.buserr := rfl
@[simp] theorem State.useDraw_busState : s.useDraw.busState = s.busState := rfl
@[simp] theorem State.useDraw_baud : s.useDraw.baud = s.baud := rfl
@[simp] theorem State.useDraw_addr : s.useDraw.addr = s.addr := rfl
@[simp] theorem State.useDraw_data : s.useDraw.data = s.data := rfl
@[simp] theorem State.useDraw_phase : s.useDraw.phase = s.phase := rfl
@[simp] theorem State.useDraw_dir : s.useDraw.dir = s.dir := rfl
@[simp] theorem State.useDraw_pc : s.useDraw.pc = s.pc := rfl
@[simp] theorem State.useDraw_op : s.useDraw.op = s.op := rfl
@[simp] theorem State.useDraw_arg : s.useDraw.arg = s.arg := rfl
@[simp] theorem State.useDraw_st : s.useDraw.st = s.st := rfl
@[simp] theorem State.useDraw_rdata : s.useDraw.rdata = s.rdata := rfl
@[simp] theorem State.useDraw_rsp : s.useDraw.rsp = s.rsp := rfl
@[simp] theorem State.useDraw_regLog : s.useDraw.regLog = s.regLog := rfl
@[simp] theorem State.useDraw_busLog : s.useDraw.busLog = s.busLog := rfl
@[simp] theorem State.useDraw_moves : s.useDraw.moves = s.moves := rfl
@[simp] theorem State.useDraw_drawCount : s.useDraw.drawCount = s.drawCount + 1 := rfl

/-! ## `respond` -/

@[simp] theorem State.respond_rien (c d : Byte) : (s.respond c d).rien = s.rien := rfl
@[simp] theorem State.respond_wien (c d : Byte) : (s.respond c d).wien = s.wien := rfl
@[simp] theorem State.respond_enable (c d : Byte) : (s.respond c d).enable = s.enable := rfl
@[simp] theorem State.respond_rif (c d : Byte) : (s.respond c d).rif = s.rif := rfl
@[simp] theorem State.respond_wif (c d : Byte) : (s.respond c d).wif = s.wif := rfl
@[simp] theorem State.respond_rxack (c d : Byte) : (s.respond c d).rxack = s.rxack := rfl
@[simp] theorem State.respond_arblost (c d : Byte) : (s.respond c d).arblost = s.arblost := rfl
@[simp] theorem State.respond_buserr (c d : Byte) : (s.respond c d).buserr = s.buserr := rfl
@[simp] theorem State.respond_busState (c d : Byte) : (s.respond c d).busState = s.busState := rfl
@[simp] theorem State.respond_baud (c d : Byte) : (s.respond c d).baud = s.baud := rfl
@[simp] theorem State.respond_addr (c d : Byte) : (s.respond c d).addr = s.addr := rfl
@[simp] theorem State.respond_data (c d : Byte) : (s.respond c d).data = s.data := rfl
@[simp] theorem State.respond_phase (c d : Byte) : (s.respond c d).phase = s.phase := rfl
@[simp] theorem State.respond_dir (c d : Byte) : (s.respond c d).dir = s.dir := rfl
@[simp] theorem State.respond_pc (c d : Byte) : (s.respond c d).pc = .ready := rfl
@[simp] theorem State.respond_op (c d : Byte) : (s.respond c d).op = s.op := rfl
@[simp] theorem State.respond_arg (c d : Byte) : (s.respond c d).arg = s.arg := rfl
@[simp] theorem State.respond_st (c d : Byte) : (s.respond c d).st = s.st := rfl
@[simp] theorem State.respond_rdata (c d : Byte) : (s.respond c d).rdata = s.rdata := rfl
@[simp] theorem State.respond_rsp (c d : Byte) : (s.respond c d).rsp = some (rspWord c d) := rfl
@[simp] theorem State.respond_regLog (c d : Byte) : (s.respond c d).regLog = s.regLog := rfl
@[simp] theorem State.respond_busLog (c d : Byte) : (s.respond c d).busLog = s.busLog := rfl
@[simp] theorem State.respond_moves (c d : Byte) : (s.respond c d).moves = s.moves := rfl
@[simp] theorem State.respond_drawCount (c d : Byte) : (s.respond c d).drawCount = s.drawCount := rfl

/-! ## `accept` -/

@[simp] theorem State.accept_rien (c d : Byte) (l : MicroPc) : (s.accept c d l).rien = s.rien := rfl
@[simp] theorem State.accept_wien (c d : Byte) (l : MicroPc) : (s.accept c d l).wien = s.wien := rfl
@[simp] theorem State.accept_enable (c d : Byte) (l : MicroPc) : (s.accept c d l).enable = s.enable := rfl
@[simp] theorem State.accept_rif (c d : Byte) (l : MicroPc) : (s.accept c d l).rif = s.rif := rfl
@[simp] theorem State.accept_wif (c d : Byte) (l : MicroPc) : (s.accept c d l).wif = s.wif := rfl
@[simp] theorem State.accept_rxack (c d : Byte) (l : MicroPc) : (s.accept c d l).rxack = s.rxack := rfl
@[simp] theorem State.accept_arblost (c d : Byte) (l : MicroPc) : (s.accept c d l).arblost = s.arblost := rfl
@[simp] theorem State.accept_buserr (c d : Byte) (l : MicroPc) : (s.accept c d l).buserr = s.buserr := rfl
@[simp] theorem State.accept_busState (c d : Byte) (l : MicroPc) : (s.accept c d l).busState = s.busState := rfl
@[simp] theorem State.accept_baud (c d : Byte) (l : MicroPc) : (s.accept c d l).baud = s.baud := rfl
@[simp] theorem State.accept_addr (c d : Byte) (l : MicroPc) : (s.accept c d l).addr = s.addr := rfl
@[simp] theorem State.accept_data (c d : Byte) (l : MicroPc) : (s.accept c d l).data = s.data := rfl
@[simp] theorem State.accept_phase (c d : Byte) (l : MicroPc) : (s.accept c d l).phase = s.phase := rfl
@[simp] theorem State.accept_dir (c d : Byte) (l : MicroPc) : (s.accept c d l).dir = s.dir := rfl
@[simp] theorem State.accept_pc (c d : Byte) (l : MicroPc) : (s.accept c d l).pc = l := rfl
@[simp] theorem State.accept_op (c d : Byte) (l : MicroPc) : (s.accept c d l).op = c := rfl
@[simp] theorem State.accept_arg (c d : Byte) (l : MicroPc) : (s.accept c d l).arg = d := rfl
@[simp] theorem State.accept_st (c d : Byte) (l : MicroPc) : (s.accept c d l).st = s.st := rfl
@[simp] theorem State.accept_rdata (c d : Byte) (l : MicroPc) : (s.accept c d l).rdata = s.rdata := rfl
@[simp] theorem State.accept_rsp (c d : Byte) (l : MicroPc) : (s.accept c d l).rsp = none := rfl
@[simp] theorem State.accept_regLog (c d : Byte) (l : MicroPc) : (s.accept c d l).regLog = s.regLog := rfl
@[simp] theorem State.accept_busLog (c d : Byte) (l : MicroPc) : (s.accept c d l).busLog = s.busLog := rfl
@[simp] theorem State.accept_moves (c d : Byte) (l : MicroPc) : (s.accept c d l).moves = s.moves := rfl
@[simp] theorem State.accept_drawCount (c d : Byte) (l : MicroPc) : (s.accept c d l).drawCount = s.drawCount := rfl

end Sys2Proof.Machine
end

