-- ==== Sys2Proof/Laws/Engine.lean ====
section
/-! SUPPORT. What the engine's and the environment's turns can do, said once. -/

namespace Sys2Proof.Machine

/-- Everything the engine's turn can do (R110). -/
theorem engineStep_cases (d : Draws) (s : State) :
    (s.engineEnabled = false ∧ engineStep d s = s) ∨
    (∃ a, s.phase = .addr a ∧ s.enable = true ∧ s.busState.canAddress = true ∧ engineStep d s = gAddr a d s) ∨
    (∃ b, s.phase = .tx b ∧ s.enable = true ∧ engineStep d s = gTx b d s) ∨
    (s.phase = .rx ∧ s.enable = true ∧ engineStep d s = gRx d s) ∨
    (s.phase = .stop ∧ s.enable = true ∧ engineStep d s = gStop s) := by
  cases he : s.engineEnabled with
  | false => exact .inl ⟨rfl, by simp [engineStep, he]⟩
  | true =>
    right
    cases hp : s.phase with
    | none => simp [State.engineEnabled, hp] at he
    | addr a =>
      have h := he
      simp [State.engineEnabled, hp] at h
      exact .inl ⟨a, rfl, h.1, h.2, by simp [engineStep, he, hp]⟩
    | tx b =>
      have h := he
      simp [State.engineEnabled, hp] at h
      exact .inr (.inl ⟨b, rfl, h, by simp [engineStep, he, hp]⟩)
    | rx =>
      have h := he
      simp [State.engineEnabled, hp] at h
      exact .inr (.inr (.inl ⟨rfl, h, by simp [engineStep, he, hp]⟩))
    | stop =>
      have h := he
      simp [State.engineEnabled, hp] at h
      exact .inr (.inr (.inr ⟨rfl, h, by simp [engineStep, he, hp]⟩))

/-- The engine's turn uses the draws it asks for and no other (R110). -/
theorem engineStep_congr {d e : Draws} {s : State} (h : drawsAsked d s = drawsAsked e s) :
    engineStep d s = engineStep e s := by
  obtain ⟨da, dx, dr, db⟩ := d
  obtain ⟨ea, ex, er, eb⟩ := e
  have hr : receiveDraws ⟨da, dx, dr, db⟩ = receiveDraws ⟨ea, ex, er, eb⟩ →
      ∀ u, receive ⟨da, dx, dr, db⟩ u = receive ⟨ea, ex, er, eb⟩ u := by
    cases dx <;> cases ex <;>
      simp_all [receiveDraws, arbLostDraws, busErrDraws, receive, arbLostOutcome, busErrOutcome, errorTail]
  cases he : s.engineEnabled with
  | false => simp [engineStep, he]
  | true =>
    cases hp : s.phase with
    | none => simp [engineStep, hp]
    | stop => simp [engineStep, hp]
    | rx =>
      simp only [drawsAsked, he, hp, if_true] at h
      simp [engineStep, he, hp, gRx, hr h]
    | tx b =>
      simp only [drawsAsked, he, hp, if_true] at h
      cases da <;> cases ea <;>
        simp_all [engineStep, gTx, answerDraws, arbLostDraws, busErrDraws, arbLostOutcome, busErrOutcome, errorTail]
    | addr a =>
      simp only [drawsAsked, he, hp, if_true] at h
      cases hd : dirBit a <;> cases da <;> cases ea <;>
        simp_all [engineStep, gAddr, answerDraws, arbLostDraws, busErrDraws, arbLostOutcome, busErrOutcome, errorTail]

/-- Everything a reception can do (R111, R114). -/
theorem receive_cases (d : Draws) (s : State) :
    (∃ b, d.rx = .byte b ∧
      receive d s = { s with data := b, rif := true, phase := .none }.emit (.rxData b)) ∨
    (d.rx = .arbLost ∧ receive d s = arbLostOutcome d s) ∨
    (d.rx = .busErr ∧ receive d s = busErrOutcome d s) := by
  cases h : d.rx with
  | byte b => exact .inl ⟨b, rfl, by simp [receive, h]⟩
  | arbLost => exact .inr (.inl ⟨rfl, by simp [receive, h]⟩)
  | busErr => exact .inr (.inr ⟨rfl, by simp [receive, h]⟩)

/-- `E-FREE` changes `BUSSTATE` alone, from `BUSY` to `IDLE` (R117). -/
theorem envFreeStep_cases (s : State) :
    (s.busState = .busy ∧ envFreeStep s = { s with busState := .idle }) ∨
    (s.busState ≠ .busy ∧ envFreeStep s = s) := by
  by_cases h : s.busState = .busy <;> simp [envFreeStep, h]

/-- `E-TAKE` changes `BUSSTATE` alone, from `IDLE` to `BUSY` (R118). -/
theorem envTakeStep_cases (s : State) :
    (s.busState = .idle ∧ envTakeStep s = { s with busState := .busy }) ∨
    (s.busState ≠ .idle ∧ envTakeStep s = s) := by
  by_cases h : s.busState = .idle <;> simp [envTakeStep, h]

end Sys2Proof.Machine
end

