-- ==== Sys2Proof/Laws/Ops.lean ====
section
/-! SUPPORT. What each shared operation can do, said once: the provers cite these and need not unfold the operation. -/

namespace Sys2Proof.Machine

/-! ## Sequencing -/

@[simp] theorem andThen_next (s : State) (f : State → Result) : andThen (.next s) f = f s := rfl
@[simp] theorem andThen_fault (r : Fault) (f : State → Result) : andThen (.fault r) f = .fault r := rfl
@[simp] theorem andThen_refused (r : Refusal) (f : State → Result) : andThen (.refused r) f = .refused r := rfl

/-- A sequence goes on exactly when both of its parts do. -/
theorem andThen_eq_next {o : Result} {f : State → Result} {t : State} :
    andThen o f = .next t ↔ ∃ u, o = .next u ∧ f u = .next t := by
  cases o <;> simp

/-- A sequence faults exactly when one of its parts does. -/
theorem andThen_eq_fault {o : Result} {f : State → Result} {r : Fault} :
    andThen o f = .fault r ↔ o = .fault r ∨ ∃ u, o = .next u ∧ f u = .fault r := by
  cases o <;> simp

/-! ## Register writes -/

/-- Everything a `DATA` write can do (R88). -/
theorem writeData_cases (d : Byte) (s : State) :
    (s.enable = false ∧ writeData d s = .next { s with data := d }) ∨
    (s.enable = true ∧ s.canTransmit = true ∧
      writeData d s = .next ({ s with data := d }.clearIf.post (.tx d))) ∨
    (s.enable = true ∧ s.canTransmit = false ∧ writeData d s = .fault .undefinedSequence) := by
  cases he : s.enable <;> cases hc : s.canTransmit <;> simp [writeData, he, hc]

/-- Everything command `STOP` can do (R91). -/
theorem stopCommand_cases (s : State) :
    (s.enable = false ∧ stopCommand s = .next s) ∨
    (s.enable = true ∧ s.canStop = true ∧ stopCommand s = .next (s.clearIf.post .stop)) ∨
    (s.enable = true ∧ s.canStop = false ∧ stopCommand s = .fault .undefinedSequence) := by
  cases he : s.enable <;> cases hc : s.canStop <;> simp [stopCommand, he, hc]

/-- Everything command `RECV_ACK` can do (R92). -/
theorem recvAckCommand_cases (s : State) :
    (s.enable = false ∧ recvAckCommand s = .next s) ∨
    (s.enable = true ∧ s.canReceive = true ∧
      recvAckCommand s = .next ((s.clearIf.emit .ackOut).post .rx)) ∨
    (s.enable = true ∧ s.canReceive = false ∧ recvAckCommand s = .fault .undefinedSequence) := by
  cases he : s.enable <;> cases hc : s.canReceive <;> simp [recvAckCommand, he, hc]

/-- Everything command `RECV_NAK` can do (R93). -/
theorem recvNakCommand_cases (s : State) :
    (s.enable = false ∧ recvNakCommand s = .next s) ∨
    (s.enable = true ∧ s.canReceive = true ∧ recvNakCommand s = .next (s.clearIf.emit .nakOut)) ∨
    (s.enable = true ∧ s.canReceive = false ∧ recvNakCommand s = .fault .undefinedSequence) := by
  cases he : s.enable <;> cases hc : s.canReceive <;> simp [recvNakCommand, he, hc]

@[simp] theorem writeCmd_flush (s : State) : writeCmd cmdFlushByte s = .next (flushCommand s) := rfl
@[simp] theorem writeCmd_stop (s : State) : writeCmd cmdStopByte s = stopCommand s := rfl
@[simp] theorem writeCmd_recvAck (s : State) : writeCmd cmdRecvAckByte s = recvAckCommand s := rfl
@[simp] theorem writeCmd_recvNak (s : State) : writeCmd cmdRecvNakByte s = recvNakCommand s := rfl

/-- A register write faults only as R162 says: by `DATA` or `CMD`, while enabled, outside the condition of R95. -/
theorem writeReg_eq_fault {r : Reg} {v : Byte} {s : State} {x : Fault} (h : writeReg r v s = .fault x) :
    s.enable = true ∧
      ((r = .data ∧ s.canTransmit = false) ∨ (r = .cmd ∧ v = cmdStopByte ∧ s.canStop = false) ∨
        (r = .cmd ∧ (v = cmdRecvAckByte ∨ v = cmdRecvNakByte) ∧ s.canReceive = false)) := by
  cases r with
  | ctrl => simp [writeReg] at h
  | status => simp [writeReg] at h
  | baud => simp [writeReg] at h
  | addr => simp [writeReg] at h
  | data =>
    rcases writeData_cases v s with ⟨-, e⟩ | ⟨-, -, e⟩ | ⟨he, hc, -⟩
    · simp [writeReg, e] at h
    · simp [writeReg, e] at h
    · exact ⟨he, .inl ⟨rfl, hc⟩⟩
  | cmd =>
    simp only [writeReg, writeCmd] at h
    split at h
    · simp at h
    split at h
    · rename_i hv
      rcases stopCommand_cases s with ⟨-, e⟩ | ⟨-, -, e⟩ | ⟨he, hc, -⟩
      · simp [e] at h
      · simp [e] at h
      · exact ⟨he, .inr (.inl ⟨rfl, hv, hc⟩)⟩
    split at h
    · rename_i hv
      rcases recvAckCommand_cases s with ⟨-, e⟩ | ⟨-, -, e⟩ | ⟨he, hc, -⟩
      · simp [e] at h
      · simp [e] at h
      · exact ⟨he, .inr (.inr ⟨rfl, .inl hv, hc⟩)⟩
    split at h
    · rename_i hv
      rcases recvNakCommand_cases s with ⟨-, e⟩ | ⟨-, -, e⟩ | ⟨he, hc, -⟩
      · simp [e] at h
      · simp [e] at h
      · exact ⟨he, .inr (.inr ⟨rfl, .inr hv, hc⟩)⟩
    · simp at h

/-! ## Accesses and steps -/

/-- An access that completes is its register's write with one entry logged (R49). -/
theorem seqWrite_eq_next {r : Reg} {v : Byte} {s t : State} :
    seqWrite r v s = .next t ↔ ∃ u, writeReg r v s = .next u ∧ t = u.logReg (.w r v) := by
  simp only [seqWrite, andThen_eq_next, Host.Outcome.next.injEq]
  exact exists_congr fun _ => and_congr_right fun _ => eq_comm

/-- An access faults exactly when its register's write does. -/
theorem seqWrite_eq_fault {r : Reg} {v : Byte} {s : State} {x : Fault} :
    seqWrite r v s = .fault x ↔ writeReg r v s = .fault x := by
  simp [seqWrite, andThen_eq_fault]

/-- A write step that completes is the access, then the jump (R126). -/
theorem writeStep_eq_next {r : Reg} {v : Byte} {l : MicroPc} {s t : State} :
    writeStep r v l s = .next t ↔ ∃ u, seqWrite r v s = .next u ∧ t = u.goto l := by
  simp only [writeStep, andThen_eq_next, Host.Outcome.next.injEq]
  exact exists_congr fun _ => and_congr_right fun _ => eq_comm

/-- A write step faults exactly when its access does. -/
theorem writeStep_eq_fault {r : Reg} {v : Byte} {l : MicroPc} {s : State} {x : Fault} :
    writeStep r v l s = .fault x ↔ writeReg r v s = .fault x := by
  simp [writeStep, andThen_eq_fault, seqWrite_eq_fault]

/-- Everything one step of an operation can do (R125, R126). -/
theorem operation_cases (c d : Byte) (e : MicroPc) (f : State → Result) (s : State) :
    (s.pc = .ready ∧ operation c d e f s = .next (s.accept c d e)) ∨
    (s.pc ≠ .ready ∧ s.op = c ∧ s.arg = d ∧ operation c d e f s = f s) ∨
    (s.pc ≠ .ready ∧ ¬(s.op = c ∧ s.arg = d) ∧ operation c d e f s = .refused .hostNotReady) := by
  by_cases h : s.pc = .ready
  · exact .inl ⟨h, by simp [operation, h]⟩
  · by_cases g : s.op = c ∧ s.arg = d
    · exact .inr (.inl ⟨h, g.1, g.2, by simp [operation, h, g]⟩)
    · exact .inr (.inr ⟨h, g, by simp only [operation, if_neg h, if_neg g]⟩)

@[simp] theorem readEffect_status (s : State) : readEffect .status s = s := rfl
@[simp] theorem readEffect_data (s : State) : readEffect .data s = s := rfl
@[simp] theorem readValue_status (s : State) : readValue .status s = s.statusByte := rfl
@[simp] theorem readValue_data (s : State) : readValue .data s = s.data := rfl

end Sys2Proof.Machine
end

