-- ==== Sys2Proof/Laws/Flags.lean ====
section
/-! SUPPORT. What each test of a status byte says of the flags it was composed from (R67, R83, R127), and what a poll
does (R127). -/

namespace Sys2Proof.Machine

/-- A status byte as a function of its fields, so that a test on it can be settled by cases. -/
def composeStatus (rif wif rxack arblost buserr : Bool) (b : BusState) : Byte :=
  BitVec.ofBool rif ++ BitVec.ofBool wif ++ (0#1) ++ BitVec.ofBool rxack ++ BitVec.ofBool arblost ++
    BitVec.ofBool buserr ++ b.bits

theorem State.statusByte_eq (s : State) :
    s.statusByte = composeStatus s.rif s.wif s.rxack s.arblost s.buserr s.busState := rfl

/-- `AnyIF` of the status read. -/
@[simp] theorem anyIf_statusByte (s : State) : anyIf s.statusByte = (s.rif || s.wif) := by
  have key : ∀ a b c d e, anyIf (composeStatus a b c d e s.busState) = (a || b) := by
    cases s.busState <;> decide
  exact key ..

/-- `WIFset` of the status read. -/
@[simp] theorem wifSet_statusByte (s : State) : wifSet s.statusByte = s.wif := by
  have key : ∀ a b c d e, wifSet (composeStatus a b c d e s.busState) = b := by
    cases s.busState <;> decide
  exact key ..

/-- `RIFset` of the status read. -/
@[simp] theorem rifSet_statusByte (s : State) : rifSet s.statusByte = s.rif := by
  have key : ∀ a b c d e, rifSet (composeStatus a b c d e s.busState) = a := by
    cases s.busState <;> decide
  exact key ..

/-- `IsIdle` of the status read. -/
@[simp] theorem isIdle_statusByte (s : State) : isIdle s.statusByte = decide (s.busState = .idle) := by
  have key : ∀ a b c d e, isIdle (composeStatus a b c d e s.busState) = decide (s.busState = .idle) := by
    cases s.busState <;> decide
  exact key ..

/-- The error test of the status read. -/
@[simp] theorem errSet_statusByte (s : State) : errSet s.statusByte = (s.arblost || s.buserr) := by
  have key : ∀ a b c d e, errSet (composeStatus a b c d e s.busState) = (d || e) := by
    cases s.busState <;> decide
  exact key ..

/-- The acknowledge test of the status read. -/
@[simp] theorem nakSet_statusByte (s : State) : nakSet s.statusByte = s.rxack := by
  have key : ∀ a b c d e, nakSet (composeStatus a b c d e s.busState) = c := by
    cases s.busState <;> decide
  exact key ..

/-- A poll latches the status, logs the read and moves by the test (R127). -/
theorem pollStep_eq (c : Byte → Bool) (ok again : MicroPc) (s : State) :
    pollStep c ok again s = .next { s with
      st := s.statusByte, regLog := s.regLog ++ [.r .status s.statusByte],
      pc := if c s.statusByte then ok else again } := rfl

/-- The capture latches the data register and logs the read (R155, step A1). -/
theorem captureStep_eq (l : MicroPc) (s : State) :
    captureStep l s = .next { s with
      rdata := s.data, regLog := s.regLog ++ [.r .data s.data], pc := l } := rfl

end Sys2Proof.Machine
end

