-- ==== Sys2Proof/Laws/Words.lean ====
section
/-! SUPPORT. Taking a word apart gives back the fields it was put together from. -/

namespace Sys2Proof

/-- The upper byte of two bytes put together. -/
theorem extract_hi_append (c d : Byte) : (c ++ d : BitVec (8 + 8)).extractLsb' 8 8 = c := by
  apply BitVec.eq_of_getLsbD_eq
  intro k hk
  rw [BitVec.getLsbD_extractLsb', BitVec.getLsbD_append]
  simp [hk]

/-- The lower byte of two bytes put together. -/
theorem extract_lo_append (c d : Byte) : (c ++ d : BitVec (8 + 8)).extractLsb' 0 8 = d := by
  apply BitVec.eq_of_getLsbD_eq
  intro k hk
  rw [BitVec.getLsbD_extractLsb', BitVec.getLsbD_append]
  simp [hk]

/-- The opcode field of a request word is the opcode it was built from (R60). -/
@[simp] theorem opcOf_reqWord (c d : Byte) : opcOf (reqWord c d) = c := extract_hi_append c d

/-- The operand field of a request word is the operand it was built from (R60). -/
@[simp] theorem opdOf_reqWord (c d : Byte) : opdOf (reqWord c d) = d := extract_lo_append c d

/-- The code of a response word is the code it was built from (R64). -/
@[simp] theorem rspCode_rspWord (c d : Byte) : rspCode (rspWord c d) = c := extract_hi_append c d

/-- The data of a response word is the byte it was built from (R64). -/
@[simp] theorem rspData_rspWord (c d : Byte) : rspData (rspWord c d) = d := extract_lo_append c d

/-- A request whose opcode takes an operand is admitted whatever its operand byte (R62, R63). -/
theorem reqWord_admitted {c : Byte} (d : Byte)
    (h : c = opcStart ∨ c = opcRepeatedStart ∨ c = opcStartWithRetry ∨ c = opcWriteByte) :
    reservedRequest (reqWord c d) = false := by
  rcases h with rfl | rfl | rfl | rfl <;>
    simp [reservedRequest, opcStart, opcRepeatedStart, opcStartWithRetry, opcWriteByte, opcInit, opcStop,
      opcReadByteAck, opcReadByteNak]

end Sys2Proof
end

