-- ==== Sys2Proof/Laws/PerInstr.lean ====
section
/-! SUPPORT. What holds of every instruction as syntax, one lemma per constructor. -/

namespace Sys2Proof.Laws.WordAdmitted

/-- The word an instruction is written as is not reserved (R63, R66). -/
def Statement (i : Instr) : Prop := (encode i).wf = true

theorem init : Statement .init := by unfold Statement; decide
theorem start (a : Byte) : Statement (.start a) := by simp [Statement, encode, CodeWord.wf, reqWord_admitted]
theorem repeatedStart (a : Byte) : Statement (.repeatedStart a) := by
  simp [Statement, encode, CodeWord.wf, reqWord_admitted]
theorem startWithRetry (a : Byte) : Statement (.startWithRetry a) := by
  simp [Statement, encode, CodeWord.wf, reqWord_admitted]
theorem stop : Statement .stop := by unfold Statement; decide
theorem writeByte (d : Byte) : Statement (.writeByte d) := by simp [Statement, encode, CodeWord.wf, reqWord_admitted]
theorem readByteAck : Statement .readByteAck := by unfold Statement; decide
theorem readByteNak : Statement .readByteNak := by unfold Statement; decide
theorem cmdFlush : Statement .cmdFlush := by unfold Statement; decide
theorem cmdStop : Statement .cmdStop := by unfold Statement; decide
theorem cmdRecvAck : Statement .cmdRecvAck := by unfold Statement; decide
theorem cmdRecvNak : Statement .cmdRecvNak := by unfold Statement; decide

end Sys2Proof.Laws.WordAdmitted
end

