-- ==== Sys2Proof/Laws/Step.lean ====
section
/-! SUPPORT. What a turn and a step can do, said once. -/

namespace Sys2Proof.Machine

/-- Taking a turn from the schedule changes the schedule and the count of free values, nothing of the block. -/
theorem takeMove_eq (s : State) :
    takeMove s = { s with moves := (takeMove s).moves, drawCount := (takeMove s).drawCount } := by
  unfold takeMove
  split <;> rfl

/-- Everything `HOST`'s turn can do (R125, R63). -/
theorem hostTurn_cases (w : Word16) (s : State) :
    (∃ i, s.pc = .ready ∧ decodeReq w = .ok i ∧ hostTurn w s = exec i s) ∨
    (∃ e, s.pc = .ready ∧ decodeReq w = .error e ∧ hostTurn w s = .refused (.reservedRequest w)) ∨
    (s.pc ≠ .ready ∧ hostTurn w s = .refused .hostNotReady) := by
  by_cases h : s.pc = .ready
  · cases hd : decodeReq w with
    | ok i => exact .inl ⟨i, h, rfl, by simp [hostTurn, h, hd]⟩
    | error e => exact .inr (.inl ⟨e, h, rfl, by simp [hostTurn, h, hd]⟩)
  · exact .inr (.inr ⟨h, by simp [hostTurn, h]⟩)

/-- Everything `SEQ`'s turn can do (R126). -/
theorem seqTurn_cases (s : State) :
    (s.pc = .ready ∧ seqTurn s = .next s) ∨
    (∃ i, s.pc ≠ .ready ∧ decodeReq (reqWord s.op s.arg) = .ok i ∧ seqTurn s = exec i s) ∨
    (∃ e, s.pc ≠ .ready ∧ decodeReq (reqWord s.op s.arg) = .error e ∧ seqTurn s = .refused .foreignLabel) := by
  by_cases h : s.pc = .ready
  · exact .inl ⟨h, by simp [seqTurn, h]⟩
  · cases hd : decodeReq (reqWord s.op s.arg) with
    | ok i => exact .inr (.inl ⟨i, h, rfl, by simp [seqTurn, h, hd]⟩)
    | error e => exact .inr (.inr ⟨e, h, rfl, by simp [seqTurn, h, hd]⟩)

/-- Everything a step that goes on can have been: one turn, from the state with that turn taken. -/
theorem step_cases {s t : State} (h : step s = .next t) :
    (∃ w, hostTurn w (takeMove s) = .next t) ∨ seqTurn (takeMove s) = .next t ∨
    (∃ d, t = engineStep d (takeMove s)) ∨ t = envFreeStep (takeMove s) ∨ t = envTakeStep (takeMove s) ∨
    t = resetEvent (takeMove s) := by
  unfold step stepTurn at h
  cases hm : nextMove s with
  | host w => rw [hm] at h; exact .inl ⟨w, h⟩
  | seq => rw [hm] at h; exact .inr (.inl h)
  | engine d => rw [hm] at h; exact .inr (.inr (.inl ⟨d, by simpa [runMove] using h.symm⟩))
  | envFree => rw [hm] at h; exact .inr (.inr (.inr (.inl (by simpa [runMove] using h.symm))))
  | envTake => rw [hm] at h; exact .inr (.inr (.inr (.inr (.inl (by simpa [runMove] using h.symm)))))
  | reset => rw [hm] at h; exact .inr (.inr (.inr (.inr (.inr (by simpa [runMove] using h.symm)))))

/-- A step whose schedule names a turn takes that turn. -/
theorem step_of_moves {s : State} {m : Move} {ms : List Move} (h : s.moves = m :: ms) :
    step s = runMove m { s with moves := ms } := by
  simp [step, stepTurn, nextMove, takeMove, h]

/-- A run of turns goes on exactly when each of its turns does. -/
theorem runMoves_cons_eq_next {m : Move} {ms : List Move} {s t : State} :
    runMoves (m :: ms) s = .next t ↔ ∃ u, runMove m s = .next u ∧ runMoves ms u = .next t := by
  simp [runMoves, andThen_eq_next]

/-- A run of turns followed by another. -/
theorem runMoves_append (ms ns : List Move) (s : State) :
    runMoves (ms ++ ns) s = andThen (runMoves ms s) (runMoves ns) := by
  induction ms generalizing s with
  | nil => rfl
  | cons m ms ih =>
    simp only [List.cons_append, runMoves]
    cases runMove m s with
    | next u => exact ih u
    | fault r => rfl
    | refused r => rfl

/-- The draws of a run of turns followed by another (R120). -/
theorem drawsTaken_append {ms ns : List Move} {s t : State} (h : runMoves ms s = .next t) :
    drawsTaken (ms ++ ns) s = drawsTaken ms s ++ drawsTaken ns t := by
  induction ms generalizing s with
  | nil =>
    cases h
    rfl
  | cons m ms ih =>
    obtain ⟨u, hu, ht⟩ := runMoves_cons_eq_next.mp h
    simp [drawsTaken, hu, ih ht]

end Sys2Proof.Machine
end

