-- ==== Sys2Proof/Laws/Stream.lean ====
section
/-! SUPPORT. Runs of a schedule, one turn at a time. -/

namespace Sys2Proof.Machine

@[simp] theorem runStream_zero (σ : Nat → Move) (s : State) : runStream σ 0 s = .next s := rfl

/-- The last turn of a run of a schedule. -/
theorem runStream_succ (σ : Nat → Move) (n : Nat) (s : State) :
    runStream σ (n + 1) s = andThen (runStream σ n s) (runMove (σ n)) := by
  simp only [runStream, List.range_succ, List.map_append, List.map_cons, List.map_nil, runMoves_append]
  cases runMoves ((List.range n).map σ) s with
  | next u => cases h : runMove (σ n) u <;> simp [runMoves, h]
  | fault r => rfl
  | refused r => rfl

/-- A run of `n + 1` turns that goes on is a run of `n` turns, then turn `n`. -/
theorem runStream_succ_eq_next {σ : Nat → Move} {n : Nat} {s t : State} :
    runStream σ (n + 1) s = .next t ↔ ∃ u, runStream σ n s = .next u ∧ runMove (σ n) u = .next t := by
  rw [runStream_succ, andThen_eq_next]

end Sys2Proof.Machine
end

