-- ==== Sys2Proof/Tests/Slice0.lean ====
section
/-! SUPPORT. The model's own tests. Expected values come from the vectors of `95_test_vectors.md` (named `T-...`, `V...`)
or from the rule named. The second half gives, for each obligation with hypotheses, concrete inputs that meet them. -/

namespace Sys2Proof.Tests

open Sys2Proof Sys2Proof.Machine

/-! ## Helpers -/

/-- `STATUS=b phase=p dir=d` of the vectors' conventions, with the controller enabled. -/
def unit (b : Byte) (p : Phase) (d : Dir) : State :=
  { State.reset with
    enable := true, rif := b[7], wif := b[6], rxack := b[4], arblost := b[3], buserr := b[2], phase := p, dir := d,
    busState :=
      if b.extractLsb' 0 2 = 0 then .unknown else if b.extractLsb' 0 2 = 1 then .idle
      else if b.extractLsb' 0 2 = 2 then .owner else .busy }

/-- The state with an operation running at label `l`. -/
def running (l : MicroPc) (op arg : Byte) (s : State) : State := { s with pc := l, op := op, arg := arg }

/-- The state with a schedule. -/
def sched (ms : List Move) (s : State) : State := { s with moves := ms }

/-- A view of the next state, where there is one. -/
def view {α : Type} (r : Result) (f : State → α) : Option α :=
  match r with
  | .next s => some (f s)
  | .fault _ => none
  | .refused _ => none

/-- The fault, where there is one. -/
def faultOf : Result → Option Fault
  | .next _ => none
  | .fault r => some r
  | .refused _ => none

/-- The refusal, where there is one. -/
def refusalOf : Result → Option Refusal
  | .next _ => none
  | .fault _ => none
  | .refused r => some r

/-- `STATUS` and the posted phase. -/
def unitView (s : State) : Byte × Phase := (s.statusByte, s.phase)

/-- The draws of one phase: the answer, the received byte, `RXACK`, and the bus after an error. -/
def draw (a : PhaseAnswer) (x : RxAnswer) : Draws := ⟨a, x, false, .idle⟩

/-! ## Well-formedness: an ill-formed term for each check -/

theorem test_wf_reserved_opcode : CodeWord.wf (.req 0x0800) = false := by decide
theorem test_wf_operand_not_zero : CodeWord.wf (.req 0x0601) = false := by decide
theorem test_wf_reserved_command : CodeWord.wf (.cmd 0x0A) = false := by decide
theorem test_wf_literal_range : AsmOperand.wf (.literal 256) = false := by decide
theorem test_wf_write_range : AsmOperand.wf (.writeTo 128) = false := by decide
theorem test_wf_read_range : AsmOperand.wf (.readFrom 128) = false := by decide
theorem test_wf_line_range : AsmLine.wf (.writeByte (.literal 256)) = false := by decide
theorem test_wf_accepts :
    CodeWord.wf (.req 0x01A0) = true ∧ CodeWord.wf (.cmd 0x06) = true ∧ AsmLine.wf (.start (.readFrom 0x7F)) = true := by
  decide

/-! ## Decoding: a word of each constructor, bit by bit from R61 and R65 (T-DEC1 to T-DEC17) -/

theorem test_decode_init : decodeTableWord 16 0b0000000000000000 = some .init := by decide
theorem test_decode_start : decodeTableWord 16 0b0000000110100000 = some (.start 0xA0) := by decide
theorem test_decode_repeatedStart : decodeTableWord 16 0b0000001010100001 = some (.repeatedStart 0xA1) := by decide
theorem test_decode_startWithRetry : decodeTableWord 16 0b0000001111111111 = some (.startWithRetry 0xFF) := by decide
theorem test_decode_stop : decodeTableWord 16 0b0000010000000000 = some .stop := by decide
theorem test_decode_writeByte : decodeTableWord 16 0b0000010100010000 = some (.writeByte 0x10) := by decide
theorem test_decode_readByteAck : decodeTableWord 16 0b0000011000000000 = some .readByteAck := by decide
theorem test_decode_readByteNak : decodeTableWord 16 0b0000011100000000 = some .readByteNak := by decide
theorem test_decode_cmdFlush : decodeTableWord 8 0b00001000 = some .cmdFlush := by decide
theorem test_decode_cmdStop : decodeTableWord 8 0b00000011 = some .cmdStop := by decide
theorem test_decode_cmdRecvAck : decodeTableWord 8 0b00000010 = some .cmdRecvAck := by decide
theorem test_decode_cmdRecvNak : decodeTableWord 8 0b00000110 = some .cmdRecvNak := by decide
theorem test_decode_rejects_operand :
    decodeReq 0x0001 = .error .operandNotZero ∧ decodeReq 0x0780 = .error .operandNotZero := by
  exact ⟨rfl, rfl⟩
theorem test_decode_rejects_opcode :
    decodeReq 0x0800 = .error .reservedOpcode ∧ decodeReq 0xFFFF = .error .reservedOpcode := by
  exact ⟨rfl, rfl⟩
theorem test_decode_rejects_command :
    decodeTableWord 8 0x00 = none ∧ decodeTableWord 8 0x07 = none ∧ decodeTableWord 8 0xFF = none := by decide
/-- R65: the fields of the four command bytes. -/
theorem test_command_fields :
    [cmdFlushByte, cmdStopByte, cmdRecvAckByte, cmdRecvNakByte].map
      (fun v => (cmdFlushBit v, cmdAckAction v, cmdBusCommand v)) =
      [(true, false, 0b00), (false, false, 0b11), (false, false, 0b10), (false, true, 0b10)] := by decide
theorem test_assemble :
    assembleProgram [.start (.literal 0xA0), .repeatedStart (.readFrom 0x50), .writeByte (.literal 0x10), .stop] =
      some [0x01A0, 0x02A1, 0x0510, 0x0400] := by decide

/-! ## Instructions: single steps -/

/-- R130, step `I1`: `CTRL` `0x00 -> 0x01`, `STATUS` stays `0x00` (T-REG1). -/
theorem test_init_enables :
    view (exec .init (running .i1 0x00 0x00 State.reset)) (fun t => (t.ctrlByte, t.statusByte, t.pc)) =
      some (0x01, 0x00, .i2) := by decide
/-- R130, step `I2` with a transaction open (T-IN2). -/
theorem test_init_forces_idle :
    view (exec .init (running .i2 0x00 0x00 (unit 0x42 .none .write))) unitView = some (0x41, .none) := by decide

/-- R135, step `S3`: an error flag overrides `RXACK = 0` (T-MSK9). -/
theorem test_start_error_first :
    view (exec (.start 0xA0) { running .s3 0x01 0xA0 (unit 0x4B .none .write) with st := 0x4B }) (fun t => t.rsp) =
      some (some 0x0100) := by decide
/-- R135, step `S1` (T-REG12). -/
theorem test_start_posts_address :
    view (exec (.start 0xA1) (running .s1 0x01 0xA1 (unit 0x4B .none .write))) unitView =
      some (0x03, .addr 0xA1) := by decide

/-- R136, step `S3`: an ACK in the read direction answers `OK` (T-MSK6). -/
theorem test_repeatedStart_ok :
    view (exec (.repeatedStart 0xA1) { running .s3 0x02 0xA1 (unit 0x82 .none .read) with st := 0x82 })
      (fun t => (t.rsp, t.pc)) = some (some 0x0000, .ready) := by decide
/-- R136, step `S0`: the flush cancels a posted stop and keeps the bus (T-REG24). -/
theorem test_repeatedStart_flush :
    view (exec (.repeatedStart 0xA1) (running .s0 0x02 0xA1 (unit 0x52 .stop .write))) unitView =
      some (0x12, .none) := by decide

/-- R137, step `S3`: a NAK is retried, not answered (T-SR1). -/
theorem test_startWithRetry_retries :
    view (exec (.startWithRetry 0xA0) { running .s3 0x03 0xA0 (unit 0x52 .stop .write) with st := 0x52 })
      (fun t => (t.rsp, t.pc)) = some (none, .w4) := by decide
/-- R137, step `W4`: an idle bus ends the wait (T-SR1, the read of `0x51`). -/
theorem test_startWithRetry_idle :
    view (exec (.startWithRetry 0xA0) (running .w4 0x03 0xA0 (unit 0x51 .none .write))) (fun t => (t.st, t.pc)) =
      some (0x51, .s0) := by decide

/-- R145, step `P0` (T-REG28). -/
theorem test_stop_posts :
    view (exec .stop (running .p0 0x04 0x00 (unit 0x52 .none .write))) unitView = some (0x12, .stop) := by decide
/-- R145, step `P0` with no transaction (T-SP4). -/
theorem test_stop_faults :
    faultOf (exec .stop (running .p0 0x04 0x00 (unit 0x01 .none .write))) = some .undefinedSequence := by decide

/-- R150, step `X0` (T-REG15). -/
theorem test_writeByte_sends :
    view (exec (.writeByte 0x10) (running .x0 0x05 0x10 (unit 0x42 .none .write))) (fun t => (unitView t, t.data)) =
      some ((0x02, .tx 0x10), 0x10) := by decide
/-- R150, step `X0` in the read direction (T-WB9). -/
theorem test_writeByte_faults :
    faultOf (exec (.writeByte 0x10) (running .x0 0x05 0x10 (unit 0x82 .none .read))) = some .undefinedSequence := by
  decide

/-- R155, step `A2`: `RECV_ACK` (T-REG31). -/
theorem test_readByteAck_asks :
    view (exec .readByteAck (running .a2 0x06 0x00 (unit 0x82 .none .read))) (fun t => (unitView t, t.busLog)) =
      some ((0x02, .rx), [.ackOut]) := by decide
/-- R155, step `A3`: the captured byte is answered, whatever `DATA` holds now (T-RD1). -/
theorem test_readByteAck_answers :
    view (exec .readByteAck { running .a3 0x06 0x00 (unit 0x82 .none .read) with rdata := 0xA5, data := 0x5A })
      (fun t => t.rsp) = some (some 0x00A5) := by decide

/-- R156, step `A2`: `RECV_NAK` (T-REG32). -/
theorem test_readByteNak_ends :
    view (exec .readByteNak (running .a2 0x07 0x00 (unit 0x82 .none .read))) (fun t => (unitView t, t.busLog)) =
      some ((0x02, .none), [.nakOut]) := by decide
/-- R156, step `A0`: with no byte waiting the poll repeats (T-RD4). -/
theorem test_readByteNak_waits :
    view (exec .readByteNak (running .a0 0x07 0x00 (unit 0x02 .none .read))) (fun t => t.pc) = some .a0 := by decide

/-- R90 (T-REG25). -/
theorem test_cmdFlush :
    view (exec .cmdFlush { unit 0x82 .none .read with data := 0xA5 }) (fun t => (t.statusByte, t.data)) =
      some (0x02, 0xA5) := by decide
/-- R91 with a receive still posted (T-REG30), and disabled (T-REG35). -/
theorem test_cmdStop :
    faultOf (exec .cmdStop (unit 0x02 .rx .read)) = some .undefinedSequence ∧
    view (exec .cmdStop State.reset) unitView = some (0x00, .none) := by decide
/-- R92 with no byte to acknowledge (T-REG33). -/
theorem test_cmdRecvAck : faultOf (exec .cmdRecvAck (unit 0x02 .none .read)) = some .undefinedSequence := by decide
/-- R93 in the write direction (T-REG34). -/
theorem test_cmdRecvNak : faultOf (exec .cmdRecvNak (unit 0x42 .none .write)) = some .undefinedSequence := by decide

/-! ## Registers, engine, environment, reset -/

/-- R84: write one to clear, `RXACK` read only, the bus state kept (T-REG5). -/
theorem test_status_clear :
    view (seqWrite .status 0xFF (unit 0x4B .none .write)) unitView = some (0x03, .none) := by decide
/-- R81, R82: bits 5 to 1 are ignored and read as zero (T-REG10). -/
theorem test_ctrl_reserved :
    view (seqWrite .ctrl 0x3F (unit 0x01 .none .write)) (fun t => readValue .ctrl t) = some 0x01 := by decide
/-- R24 (T-IRQ2, T-IRQ3, T-IRQ6). -/
theorem test_irq :
    view (seqWrite .ctrl 0x41 (unit 0x42 .none .write)) State.irq = some true ∧
    view (seqWrite .ctrl 0x81 (unit 0x42 .none .write)) State.irq = some false ∧
    view (seqWrite .ctrl 0xC0 (unit 0x42 .none .write)) State.irq = some false := by decide
/-- R111: an ACK in the read direction delivers the first byte (T-ENG3). -/
theorem test_engine_read :
    let t := engineStep (draw .ack (.byte 0xA5)) (unit 0x02 (.addr 0xA1) .write)
    (unitView t, t.dir, t.data, t.busLog) =
      ((0x82, .none), .read, 0xA5, [.repStart, .addrByte 0xA1, .ackIn, .rxData 0xA5]) := by decide
/-- R111: a NAK posts a stop and draws no byte (T-ENG5). -/
theorem test_engine_nak :
    let t := engineStep (draw .nak (.byte 0xA5)) (unit 0x01 (.addr 0xA1) .write)
    (unitView t, t.dir, t.busLog) = ((0x52, .stop), .read, [.start, .addrByte 0xA1, .nakIn]) := by decide
/-- R116: a bus error with `RXACK` drawn 1 and the bus drawn busy (T-ENG9). -/
theorem test_engine_bus_error :
    unitView (engineStep ⟨.busErr, .busErr, true, .busy⟩ (unit 0x01 (.addr 0xA0) .write)) = (0x57, .none) := by decide
/-- R114: an error in a receive phase sets `WIF`, not `RIF` (T-ENG18). -/
theorem test_engine_rx_error :
    unitView (engineStep ⟨.ack, .busErr, false, .busy⟩ (unit 0x02 .rx .read)) = (0x47, .none) := by decide
/-- R115: the stop phase changes no flag (T-ENG20). -/
theorem test_engine_stop : unitView (engineStep (draw .ack .busErr) (unit 0x52 .stop .write)) = (0x51, .none) := by
  decide
/-- R111: an address phase waits while the bus is busy (T-ENG11), R118 (T-ENV3). -/
theorem test_engine_waits :
    engineStep (draw .ack .busErr) (unit 0x03 (.addr 0xA0) .write) = unit 0x03 (.addr 0xA0) .write ∧
    unitView (envTakeStep (unit 0x01 (.addr 0xA0) .write)) = (0x03, .addr 0xA0) := by decide
/-- R116, R111, R115: the draws of a bus error, of a read-direction ACK, of a stop (T-ENG9, T-ENG2, T-ENG19). -/
theorem test_draws :
    drawsAsked ⟨.busErr, .busErr, true, .busy⟩ (unit 0x01 (.addr 0xA0) .write) =
      [.answer .busErr, .idleOrBusy .busy, .bit true] ∧
    drawsAsked (draw .ack (.byte 0xA5)) (unit 0x01 (.addr 0xA1) .write) = [.answer .ack, .rx (.byte 0xA5)] ∧
    drawsAsked (draw .ack .busErr) (unit 0x02 .stop .write) = [] := by decide
/-- R120: an engine turn with no phase to perform takes no draw from the script. -/
theorem test_script :
    drawsTaken [.engine (draw .nak .busErr), .seq, .engine (draw .ack .busErr)]
      (running .s1 0x03 0xA0 (unit 0x01 .none .write)) = [.answer .ack] := by decide
/-- R180 (T-RST1). -/
theorem test_reset_event :
    resetEvent (running .s2 0x01 0xA0 (unit 0x03 (.addr 0xA0) .write)) = State.reset := by decide

/-! ## Steps -/

/-- The first step after reset runs the placed request, and the placed command. -/
theorem test_first_step :
    view (step (State.reset.withFetchWord 16 0x0510)) (fun t => (t.op, t.arg, t.pc)) = some (0x05, 0x10, .x0) ∧
    view (step (State.reset.withFetchWord 8 0x08)) (fun t => (t.regLog, t.pc)) =
      some ([.w .cmd 0x08], .s1) := by decide
/-- R63 (T-DEC12): a reserved request is refused. -/
theorem test_step_refuses :
    refusalOf (step (State.reset.withFetchWord 16 0x7F00)) = some (.reservedRequest 0x7F00) := by decide

/-! ## Witnesses: inputs that meet the hypotheses of each obligation -/

/-- A schedule in which `SEQ`, the engine (with an ACK and a byte) and `E-FREE` take turns for ever. -/
def fairSchedule (n : Nat) : Move :=
  if n % 3 = 0 then .seq else if n % 3 = 1 then .engine (draw .ack (.byte 0xA5)) else .envFree

/-- A running `writeByte` at `X0` inside its window. -/
def writing : State := running .x0 0x05 0x10 (unit 0x42 .none .write)

/-- A running `startWithRetry` at `S0` over an idle bus. -/
def retrying (a : Byte) : State := running .s0 0x03 a (unit 0x01 .none .write)

theorem witness_EncodeDecodeRoundTrip :
    decode (.req 0x01FF) = .ok (.start 0xFF) ∧ decode (.req 0x0000) = .ok .init ∧ decode (.cmd 0x06) = .ok .cmdRecvNak :=
  ⟨rfl, rfl, rfl⟩

theorem witness_ReservedWordsRefused :
    State.reset.pc = .ready ∧ 8 ≤ (opcOf 0x0800).toNat ∧ 8 ≤ (opcOf 0xFFFF).toNat ∧
    (opcOf 0x0001 = 0x00 ∧ opdOf 0x0001 ≠ 0x00) ∧ (opcOf 0x04FF = 0x04 ∧ opdOf 0x04FF ≠ 0x00) ∧
    ¬(8 ≤ (opcOf 0x0700).toNat ∨ ((opcOf 0x0700 = 0x00 ∨ opcOf 0x0700 = 0x04 ∨ opcOf 0x0700 = 0x06 ∨
      opcOf 0x0700 = 0x07) ∧ opdOf 0x0700 ≠ 0x00)) ∧
    ((0x00 : Byte) ≠ 0x08 ∧ (0x00 : Byte) ≠ 0x03 ∧ (0x00 : Byte) ≠ 0x02 ∧ (0x00 : Byte) ≠ 0x06) := by decide

theorem witness_OperandAssembly :
    127 < 128 ∧ AsmLine.wf (.start (.literal 255)) = true ∧ AsmLine.wf .stop = true ∧
    AsmLine.wf (.start (.readFrom 128)) = false := by decide

theorem witness_ControlWrite :
    (0x01 : Byte)[0] = true ∧ (0xFF : Byte)[0] = true ∧ (0x00 : Byte)[0] = false ∧ (0xFE : Byte)[0] = false := by decide

theorem witness_StatusWrite :
    ((0xCD : Byte)[7] = true ∧ (0xCD : Byte)[6] = true ∧ (0xCD : Byte)[3] = true ∧ (0xCD : Byte)[2] = true ∧
      (0xCD : Byte) &&& 0x03 = 0x01) ∧
    ((0x30 : Byte)[7] = false ∧ (0x30 : Byte)[6] = false ∧ (0x30 : Byte)[3] = false ∧ (0x30 : Byte)[2] = false ∧
      (0x30 : Byte) &&& 0x03 ≠ 0x01) ∧ (0x03 : Byte) &&& 0x03 ≠ 0x01 := by decide

theorem witness_AddressWrite : (unit 0x03 .none .write).enable = true ∧ State.reset.enable = false := by decide

theorem witness_DataWrite :
    State.reset.enable = false ∧
    (let s := unit 0x52 .none .write;
      s.enable = true ∧ s.busState = .owner ∧ s.phase = .none ∧ s.dir = .write) ∧
    (let s := unit 0x02 (.tx 0x10) .write;
      s.enable = true ∧ ¬(s.busState = .owner ∧ s.phase = .none ∧ s.dir = .write)) := by decide

theorem witness_FlushCommand : (unit 0x52 .stop .write).enable = true ∧ State.reset.enable = false := by decide

theorem witness_StopCommand :
    State.reset.enable = false ∧
    (let s := unit 0x02 .none .read; s.enable = true ∧ s.busState = .owner ∧ s.phase = .none) ∧
    (let s := unit 0x51 .none .write; s.enable = true ∧ ¬(s.busState = .owner ∧ s.phase = .none)) := by decide

/-- For `RecvAckCommand` and `RecvNakCommand`. -/
theorem witness_ReceiveCommands :
    State.reset.enable = false ∧
    (let s := unit 0x82 .none .read;
      s.enable = true ∧ s.busState = .owner ∧ s.phase = .none ∧ s.dir = .read ∧ s.rif = true) ∧
    (let s := unit 0x02 .none .read;
      s.enable = true ∧ ¬(s.busState = .owner ∧ s.phase = .none ∧ s.dir = .read ∧ s.rif = true)) := by decide

theorem witness_RegisterReads : (Reg.data ≠ .addr ∧ Reg.data ≠ .cmd) ∧ (Reg.addr = .addr ∨ Reg.addr = .cmd) := by decide

theorem witness_AccessOutsideRegistersRefused :
    (0 ≠ 1 ∧ 2 ≠ 1) ∧ (∀ n : Nat, 3 ≤ n → n ≤ 8 → Config.twiBase + 2 ≠ Config.twiBase + n) ∧
    (∀ n : Nat, 3 ≤ n → n ≤ 8 → Config.twiBase + 9 ≠ Config.twiBase + n) := by
  refine ⟨by decide, fun n h1 h2 h => ?_, fun n h1 h2 h => ?_⟩
  · have e : 2 = n := Nat.add_left_cancel h
    omega
  · have e : 9 = n := Nat.add_left_cancel h
    omega

theorem witness_AccessesLogged : ∃ t, seqWrite .data 0x10 (unit 0x42 .none .write) = .next t := ⟨_, rfl⟩

theorem witness_AddressPhase :
    (let s := unit 0x01 (.addr 0xA0) .write; s.enable = true ∧ s.phase = .addr 0xA0 ∧ s.busState = .idle) ∧
    (let s := unit 0x02 (.addr 0xA1) .read; s.enable = true ∧ s.phase = .addr 0xA1 ∧ s.busState = .owner) ∧
    (0xA0 : Byte)[0] = false ∧ (0xA1 : Byte)[0] = true ∧
    ((draw .ack (.byte 0x3C)).ans = .ack ∧ (draw .ack (.byte 0x3C)).rx = .byte 0x3C) ∧
    (draw .ack .arbLost).rx = .arbLost ∧ (draw .ack .busErr).rx = .busErr ∧ (draw .nak .busErr).ans = .nak ∧
    (draw .arbLost .busErr).ans = .arbLost ∧ (draw .busErr .busErr).ans = .busErr := by decide

theorem witness_TransmitPhase :
    (let s := unit 0x12 (.tx 0x11) .write; s.enable = true ∧ s.phase = .tx 0x11) ∧ (draw .ack .busErr).ans = .ack ∧
    (draw .nak .busErr).ans = .nak ∧ (draw .arbLost .busErr).ans = .arbLost ∧ (draw .busErr .busErr).ans = .busErr := by
  decide

theorem witness_ReceivePhase :
    (let s := unit 0x02 .rx .read; s.enable = true ∧ s.phase = .rx) ∧ (draw .ack (.byte 0x5A)).rx = .byte 0x5A ∧
    (draw .ack .arbLost).rx = .arbLost ∧ (draw .ack .busErr).rx = .busErr := by decide

theorem witness_StopPhase : (unit 0x52 .stop .write).enable = true ∧ (unit 0x52 .stop .write).phase = .stop := by decide

theorem witness_EnvironmentSteps :
    (unit 0x4B .none .write).busState = .busy ∧ (unit 0x01 .none .write).busState = .idle := by decide

theorem witness_DisabledTurnsChangeNothing :
    State.reset.enable = false ∧ State.reset.phase = .none ∧ State.reset.busState ≠ .busy ∧
    State.reset.busState ≠ .idle ∧ State.reset.pc = .ready ∧
    (let s := unit 0x03 (.addr 0xA0) .write; s.phase = .addr 0xA0 ∧ s.busState = .busy) ∧
    (let s := unit 0x00 (.addr 0xA0) .write; s.phase = .addr 0xA0 ∧ s.busState = .unknown) := by decide

theorem witness_EngineFrame :
    ∃ t s, t = engineStep (draw .nak .busErr) s ∧ s = unit 0x02 (.tx 0x10) .write ∧ t ≠ s := ⟨_, _, rfl, rfl, by decide⟩

theorem witness_BusMachine :
    (let s := unit 0x01 (.addr 0xA0) .write;
      s.Inv = true ∧ s.enable = true ∧ s.phase = .addr 0xA0 ∧ s.busState = .idle) ∧
    (let s := unit 0x02 (.addr 0xA1) .write;
      s.Inv = true ∧ s.enable = true ∧ s.phase = .addr 0xA1 ∧ s.busState = .owner) ∧
    ((draw .ack .arbLost).ans = .ack ∧ dirBit 0xA0 = false) ∧ (draw .nak .busErr).ans ≠ .ack ∧
    (let s := unit 0x02 (.tx 0x10) .write; s.Inv = true ∧ s.enable = true ∧ s.phase = .tx 0x10) ∧
    (let s := unit 0x02 .rx .read; s.Inv = true ∧ s.enable = true ∧ s.phase = .rx) ∧
    (let s := unit 0x42 .stop .write; s.Inv = true ∧ s.enable = true ∧ s.phase = .stop) ∧
    (let s := running .s1 0x01 0xA0 (unit 0x01 .none .write);
      s.Inv = true ∧ s.enable = true ∧ s.op = 0x01 ∧ s.arg = 0xA0 ∧ s.pc = .s1 ∧ s.inIdle = true) ∧
    (let s := running .s1 0x03 0xA1 (unit 0x02 .none .write);
      s.Inv = true ∧ s.enable = true ∧ s.op = 0x03 ∧ s.arg = 0xA1 ∧ s.pc = .s1 ∧ s.inDataPhase = true) ∧
    (writing.Inv = true ∧ writing.enable = true ∧ writing.pc = .x0 ∧ writing.inDataPhase = true ∧
      writing.phase = .none ∧ writing.dir = .write) ∧
    (let s := running .a2 0x06 0x00 (unit 0x82 .none .read);
      s.Inv = true ∧ s.enable = true ∧ s.pc = .a2 ∧ s.op = 0x06 ∧ s.inDataPhase = true) ∧
    (let s := running .a2 0x07 0x00 (unit 0x82 .none .read);
      s.Inv = true ∧ s.enable = true ∧ s.pc = .a2 ∧ s.op = 0x07 ∧ s.inDataPhase = true) ∧
    (let s := running .p0 0x04 0x00 (unit 0x42 .none .write);
      s.Inv = true ∧ s.enable = true ∧ s.pc = .p0 ∧ s.inDataPhase = true ∧ s.phase = .none) := by decide

theorem witness_RequestAccepted :
    State.reset.pc = .ready ∧ reservedRequest 0x0000 = false ∧ reservedRequest 0x07FF = true ∧
    reservedRequest 0x0700 = false ∧ writing.pc ≠ .ready := by decide

theorem witness_StepRunsDecoded :
    ((sched [.host 0x01A0] State.reset).moves = .host 0x01A0 :: [] ∧ State.reset.pc = .ready ∧
      decodeReq 0x01A0 = .ok (.start 0xA0)) ∧
    ((sched [.seq] writing).moves = .seq :: [] ∧ writing.pc ≠ .ready ∧
      decodeReq (writing.op ++ writing.arg) = .ok (.writeByte 0x10)) ∧
    ((retrying 0xA0).pc = .s0 ∧ (retrying 0xA0).op = 0x03 ∧ decodeCmd 0x08 = .ok .cmdFlush) ∧
    decodeCmd 0x03 = .ok .cmdStop ∧ decodeCmd 0x02 = .ok .cmdRecvAck ∧ decodeCmd 0x06 = .ok .cmdRecvNak :=
  ⟨⟨rfl, rfl, rfl⟩, ⟨rfl, by decide, rfl⟩, ⟨rfl, rfl, rfl⟩, rfl, rfl, rfl⟩

/-- For `InitSteps` and `InitRun`. -/
theorem witness_Init :
    State.reset.pc = .ready ∧
    (let s := running .i3 0x00 0x00 State.reset; s.op = 0x00 ∧ s.arg = 0x00 ∧ s.pc = .i3) ∧
    (let ms := [Move.seq, .engine (draw .nak .busErr), .seq, .seq, .envTake, .seq];
      (∀ m ∈ ms, isInternal m = true) ∧ ms.count Move.seq = 4) ∧
    [Move.seq, .envFree, .seq, .seq].count Move.seq < 4 := by decide

theorem witness_StartSteps :
    (let s := running .s0 0x01 0xA0 (unit 0x4B .none .write);
      s.op = 0x01 ∧ s.arg = 0xA0 ∧ s.pc = .s0 ∧ s.enable = true) ∧
    (let s := running .s1 0x02 0xFF State.reset; s.op = 0x02 ∧ s.arg = 0xFF ∧ s.pc = .s1 ∧ s.enable = false) ∧
    (running .s2 0x01 0xA0 State.reset).pc = .s2 ∧ (running .s3 0x01 0xA0 State.reset).pc = .s3 ∧
    State.reset.pc = .ready := by decide

theorem witness_RetrySteps :
    (let s := retrying 0xA0; s.op = 0x03 ∧ s.arg = 0xA0 ∧ s.pc = .s0 ∧ s.enable = true) ∧
    (let s := running .s1 0x03 0x00 State.reset; s.op = 0x03 ∧ s.arg = 0x00 ∧ s.pc = .s1 ∧ s.enable = false) ∧
    (0x52 : Byte) &&& 0x1C ≠ 0 ∧ (0x4B : Byte) &&& 0x1C ≠ 0 ∧ (0x42 : Byte) &&& 0x1C = 0 ∧
    (running .w4 0x03 0xA0 State.reset).pc = .w4 := by decide

theorem witness_StopSteps :
    (let s := running .p0 0x04 0x00 (unit 0x42 .none .write);
      s.op = 0x04 ∧ s.arg = 0x00 ∧ s.pc = .p0 ∧ s.enable = true ∧ s.busState = .owner ∧ s.phase = .none) ∧
    (let s := running .p0 0x04 0x00 State.reset; s.pc = .p0 ∧ s.enable = false) ∧
    (let s := running .p0 0x04 0x00 (unit 0x02 .rx .read);
      s.pc = .p0 ∧ s.enable = true ∧ ¬(s.busState = .owner ∧ s.phase = .none)) ∧
    (running .p1 0x04 0x00 State.reset).pc = .p1 ∧ (running .p2 0x04 0x00 State.reset).pc = .p2 := by decide

theorem witness_WriteByteSteps :
    (writing.op = 0x05 ∧ writing.arg = 0x10 ∧ writing.pc = .x0 ∧ writing.enable = true ∧ writing.busState = .owner ∧
      writing.phase = .none ∧ writing.dir = .write) ∧
    (let s := running .x0 0x05 0xFF State.reset; s.op = 0x05 ∧ s.arg = 0xFF ∧ s.pc = .x0 ∧ s.enable = false) ∧
    (let s := running .x0 0x05 0x10 (unit 0x82 .none .read);
      s.enable = true ∧ ¬(s.busState = .owner ∧ s.phase = .none ∧ s.dir = .write)) ∧
    (running .x1 0x05 0x10 State.reset).pc = .x1 ∧ (running .x2 0x05 0x10 State.reset).pc = .x2 := by decide

theorem witness_ReadSteps :
    (let s := running .a2 0x06 0x00 (unit 0x82 .none .read);
      s.op = 0x06 ∧ s.arg = 0x00 ∧ s.pc = .a2 ∧ s.enable = true ∧ s.busState = .owner ∧ s.phase = .none ∧
      s.dir = .read ∧ s.rif = true) ∧
    (let s := running .a2 0x07 0x00 State.reset; s.op = 0x07 ∧ s.arg = 0x00 ∧ s.pc = .a2 ∧ s.enable = false) ∧
    (let s := running .a2 0x07 0x00 (unit 0x42 .none .write);
      s.enable = true ∧ ¬(s.busState = .owner ∧ s.phase = .none ∧ s.dir = .read ∧ s.rif = true)) ∧
    (running .a0 0x06 0x00 State.reset).pc = .a0 ∧ (running .a1 0x06 0x00 State.reset).pc = .a1 ∧
    (running .a3 0x07 0x00 State.reset).pc = .a3 := by decide

theorem witness_StartRun :
    (let s := unit 0x01 .none .write; s.pc = .ready ∧ s.enable = true ∧ s.busState = .idle) ∧
    (let s := unit 0x42 .none .write; s.pc = .ready ∧ s.enable = true ∧ s.busState = .owner) := by decide

theorem witness_RetryAttempts :
    (∀ a, (retrying a).pc = .s0 ∧ (retrying a).op = 0x03 ∧ (retrying a).arg = a ∧ (retrying a).enable = true ∧
      (retrying a).busState = .idle) ∧
    (∀ x ∈ [(draw .nak .busErr, draw .ack .busErr)], x.1.ans = .nak) ∧
    drawsAccept 0xA0 (draw .ack .busErr) ∧ drawsAccept 0xA1 (draw .ack (.byte 0xA5)) := by
  refine ⟨fun a => ⟨rfl, rfl, rfl, rfl, rfl⟩, by decide, ⟨rfl, fun h => absurd h (by decide)⟩, rfl, fun _ => ⟨_, rfl⟩⟩

theorem witness_StopRun :
    let s := unit 0x52 .none .write; s.pc = .ready ∧ s.enable = true ∧ s.busState = .owner ∧ s.phase = .none := by decide

theorem witness_WriteByteRun :
    let s := unit 0x42 .none .write;
    s.pc = .ready ∧ s.enable = true ∧ s.busState = .owner ∧ s.phase = .none ∧ s.dir = .write := by decide

theorem witness_ReadRun :
    let s := unit 0x82 .none .read;
    s.pc = .ready ∧ s.enable = true ∧ s.busState = .owner ∧ s.phase = .none ∧ s.dir = .read ∧ s.rif = true := by decide

theorem witness_StepKeepsInvariant : ∃ s t, s = sched [.seq] writing ∧ s.Inv = true ∧ step s = .next t :=
  ⟨_, _, rfl, by decide, rfl⟩

theorem witness_InterruptLineStaysLow :
    ∃ s t, s = sched [.seq] writing ∧ s.rien = false ∧ s.wien = false ∧ step s = .next t := ⟨_, _, rfl, rfl, rfl, rfl⟩

theorem witness_FaultsExactlyOutsideWindow :
    (let s := sched [.seq] (running .x0 0x05 0x10 (unit 0x01 .none .write));
      s.Inv = true ∧ nextMove s = .seq ∧ s.enable = true ∧ s.pc = .x0 ∧ s.busState ≠ .owner ∧
      faultOf (step s) = some .undefinedSequence) ∧
    (let s := sched [.seq] (running .p0 0x04 0x00 (unit 0x52 .stop .write));
      s.Inv = true ∧ nextMove s = .seq ∧ s.enable = true ∧ s.pc = .p0 ∧ s.phase ≠ .none ∧
      faultOf (step s) = some .undefinedSequence) ∧
    (let s := sched [.seq] (running .a2 0x06 0x00 (unit 0x81 .none .read));
      s.Inv = true ∧ nextMove s = .seq ∧ s.enable = true ∧ s.pc = .a2 ∧ s.busState ≠ .owner ∧
      faultOf (step s) = some .undefinedSequence) := by decide

theorem witness_RefusalsOnlyForHost :
    (let s := sched [.host 0x0800] State.reset;
      s.Inv = true ∧ nextMove s = .host 0x0800 ∧ s.pc = .ready ∧ reservedRequest 0x0800 = true ∧
      refusalOf (step s) = some (.reservedRequest 0x0800)) ∧
    (let s := sched [.host 0x0000] writing;
      s.Inv = true ∧ nextMove s = .host 0x0000 ∧ s.pc ≠ .ready ∧ refusalOf (step s) = some .hostNotReady) := by decide

/-- For `LogsOnlyGrow` and `ControlFlow`. -/
theorem witness_Step :
    (∃ t, step (sched [.seq] writing) = .next t ∧ nextMove (sched [.seq] writing) = .seq ∧ t.pc = .x1) ∧
    (∃ t, step (sched [.seq] State.reset) = .next t ∧ State.reset.pc = .ready) ∧
    (∃ t, step (sched [.seq] { running .s3 0x03 0xA0 (unit 0x51 .none .write) with st := 0x52 }) = .next t ∧
      t.pc = .w4) ∧
    (∃ t, step (sched [.host 0x0700] State.reset) = .next t ∧ t.pc = .a0) ∧
    (∃ t, step (sched [.engine (draw .nak .busErr)] (unit 0x02 (.tx 0x10) .write)) = .next t) ∧
    (∃ t, step (sched [.envTake] (unit 0x01 .none .write)) = .next t) ∧
    (∃ t, step (sched [.reset] writing) = .next t) :=
  ⟨⟨_, rfl, rfl, rfl⟩, ⟨_, rfl, rfl⟩, ⟨_, rfl, rfl⟩, ⟨_, rfl, rfl⟩, ⟨_, rfl⟩, ⟨_, rfl⟩, ⟨_, rfl⟩⟩

theorem witness_ResponseWords :
    ∃ t, exec .init (running .i3 0x00 0x00 State.reset) = .next t ∧ t.rsp = some 0x0000 := ⟨_, rfl, rfl⟩

theorem witness_DecisionsSeeCurrentFlags :
    (∃ t, (sched [.seq] (running .s2 0x01 0xA0 (unit 0x4B .none .write))).Inv = true ∧
      step (sched [.seq] (running .s2 0x01 0xA0 (unit 0x4B .none .write))) = .next t ∧ t.pc = .s3) ∧
    (∃ t, (sched [.seq] (running .x1 0x05 0x10 (unit 0x52 .none .write))).Inv = true ∧
      step (sched [.seq] (running .x1 0x05 0x10 (unit 0x52 .none .write))) = .next t ∧ t.pc = .x2) ∧
    (let s := { running .s3 0x01 0xA0 (unit 0x51 .none .write) with st := 0x52 };
      s.Inv = true ∧ s.op = 0x01 ∧ s.pc = .s3) ∧
    (let s := { running .s3 0x02 0xA0 (unit 0x4B .none .write) with st := 0x4B };
      s.Inv = true ∧ s.op = 0x02 ∧ s.pc = .s3) ∧
    (let s := { running .s3 0x03 0xA0 (unit 0x49 .none .write) with st := 0x4B };
      s.Inv = true ∧ s.op = 0x03 ∧ s.pc = .s3 ∧ s.arblost = true) ∧
    (let s := { running .s3 0x03 0xA0 (unit 0x42 .none .write) with st := 0x42 };
      s.Inv = true ∧ s.op = 0x03 ∧ s.pc = .s3 ∧ s.arblost = false ∧ s.buserr = false ∧ s.rxack = false) ∧
    (let s := { running .x2 0x05 0x10 (unit 0x42 .none .write) with st := 0x42 }; s.Inv = true ∧ s.pc = .x2) :=
  ⟨⟨_, by decide, rfl, rfl⟩, ⟨_, by decide, rfl, rfl⟩, by decide⟩

theorem witness_NoFaultInsideWindow :
    (∀ m ∈ [Move.seq, .engine (draw .arbLost .busErr), .envFree], isInternal m = true) ∧
    (writing.enable = true ∧ writing.busState = .owner ∧ writing.pc = .x0 ∧ writing.op = 0x05 ∧ writing.phase = .none ∧
      writing.dir = .write) ∧
    (let s := running .p0 0x04 0x00 (unit 0x02 .none .read);
      s.enable = true ∧ s.busState = .owner ∧ s.pc = .p0 ∧ s.op = 0x04 ∧ s.arg = 0x00 ∧ s.phase = .none) ∧
    (let s := running .a0 0x07 0x00 (unit 0x02 .rx .read);
      s.enable = true ∧ s.busState = .owner ∧ s.pc = .a0 ∧ s.op = 0x07 ∧ s.arg = 0x00 ∧ s.dir = .read ∧
      s.phase = .rx ∧ s.rif = false) := by decide

theorem witness_DisabledNeverAnswers :
    reservedRequest 0x0400 = false ∧ opcOf 0x0400 ≠ 0x00 ∧ reservedRequest 0x01A0 = false ∧ opcOf 0x01A0 = 0x01 ∧
    opcOf 0x0510 = 0x05 ∧ opcOf 0x0700 = 0x07 ∧ 2 ≤ [Move.seq, .seq, .envTake].count Move.seq ∧
    (∀ m ∈ [Move.seq, .seq, .envTake], isInternal m = true) ∧ State.reset.pc = .ready ∧ State.reset.enable = false ∧
    State.reset.statusByte = 0x00 ∧ State.reset.phase = .none := by decide

theorem witness_ReadWithoutByteNeverAnswers :
    (∀ m ∈ [Move.seq, .seq], isInternal m = true) ∧
    (let s := running .a0 0x06 0x00 (unit 0x42 .none .write);
      s.pc = .a0 ∧ s.op = 0x06 ∧ s.arg = 0x00 ∧ s.rif = false ∧ s.quiet = true) ∧
    (let s := running .a0 0x07 0x00 (unit 0x52 .stop .write);
      s.pc = .a0 ∧ s.op = 0x07 ∧ s.arg = 0x00 ∧ s.rif = false ∧ s.quiet = true) := by decide

/-- No turn of the fair schedule answers with an error. -/
theorem witness_fair_no_error : envSingleMaster fairSchedule ∧ envNoBusError fairSchedule := by
  have key : ∀ n d, fairSchedule n = .engine d → d = draw .ack (.byte 0xA5) := by
    intro n d h
    unfold fairSchedule at h
    split at h
    · cases h
    · split at h
      · exact (Move.engine.inj h).symm
      · cases h
  refine ⟨fun n => ⟨?_, fun d h => ?_⟩, fun n d h => ?_⟩
  · unfold fairSchedule
    split
    · decide
    · split
      · exact Move.noConfusion
      · decide
  · rw [key n d h]
    decide
  · rw [key n d h]
    decide

/-- The fair schedule meets the premises on schedules of the three obligations on fairness. -/
theorem witness_fair :
    undisturbed fairSchedule ∧ fairSeq fairSchedule ∧ fairEngine fairSchedule ∧ noTake fairSchedule ∧
    envReleases fairSchedule := by
  refine ⟨fun n => ?_, fun n => ⟨3 * n, by omega, ?_⟩, fun n => ⟨3 * n + 1, by omega, draw .ack (.byte 0xA5), ?_⟩,
    fun n => ?_, fun n => ⟨3 * n + 2, by omega, ?_⟩⟩
  · unfold fairSchedule
    split
    · exact ⟨by decide, fun w h => by cases h⟩
    · split
      · exact ⟨Move.noConfusion, fun w => Move.noConfusion⟩
      · exact ⟨by decide, fun w h => by cases h⟩
  · simp [fairSchedule]
  · have h : (3 * n + 1) % 3 = 1 := by omega
    simp [fairSchedule, h]
  · unfold fairSchedule
    split
    · decide
    · split
      · exact fun h => by cases h
      · decide
  · have h : (3 * n + 2) % 3 = 2 := by omega
    simp [fairSchedule, h]

theorem witness_WriteByteAnswersUnderFairness :
    writing.pc = .x0 ∧ writing.op = 0x05 ∧ writing.enable = true ∧ writing.busState = .owner ∧ writing.phase = .none ∧
    writing.dir = .write := by decide

theorem witness_StartAndStopAnswerUnderFairness :
    (let s := running .s0 0x02 0xA0 (unit 0x52 .stop .write);
      s.enable = true ∧ s.pc = .s0 ∧ s.op = 0x02 ∧ s.busState = .owner ∧ s.phase = .stop) ∧
    (let s := running .p0 0x04 0x00 (unit 0x42 .none .write);
      s.enable = true ∧ s.pc = .p0 ∧ s.op = 0x04 ∧ s.arg = 0x00 ∧ s.busState = .owner ∧ s.phase = .none) := by decide

/-- Under the fair schedule every address phase is accepted, so the premise on the slave holds of every state. -/
theorem witness_RetryAnswersUnderFairness :
    (retrying 0xA1).pc = .s0 ∧ (retrying 0xA1).op = 0x03 ∧ (retrying 0xA1).arg = 0xA1 ∧ (retrying 0xA1).enable = true ∧
    (retrying 0xA1).busState ≠ .unknown ∧ (retrying 0xA1).phase = .none ∧
    ∀ s, envEventuallyAcks fairSchedule s 0xA1 := by
  refine ⟨rfl, rfl, rfl, rfl, by decide, rfl, fun s h => ?_⟩
  obtain ⟨k, d, -, hk, ht⟩ := h 0
  refine ⟨k, d, ⟨hk, ht⟩, ?_⟩
  have hd : d = draw .ack (.byte 0xA5) := by
    unfold fairSchedule at hk
    split at hk
    · cases hk
    · split at hk
      · exact (Move.engine.inj hk).symm
      · cases hk
  subst hd
  exact ⟨rfl, fun _ => ⟨_, rfl⟩⟩

/-- For `FrameInit`, `FrameStartFamily` and `FrameDataPhase`: each of the instructions has a next state. -/
theorem witness_Frames :
    (∃ t, exec .init (running .i2 0x00 0x00 State.reset) = .next t) ∧
    (∃ t, exec (.start 0xA0) (running .s1 0x01 0xA0 State.reset) = .next t) ∧
    (∃ t, exec (.repeatedStart 0xA0) (running .s0 0x02 0xA0 (unit 0x42 .none .write)) = .next t) ∧
    (∃ t, exec (.startWithRetry 0xA0) (running .w4 0x03 0xA0 State.reset) = .next t) ∧
    (∃ t, exec .stop (running .p1 0x04 0x00 State.reset) = .next t) ∧ (∃ t, exec (.writeByte 0x10) writing = .next t) ∧
    (∃ t, exec .readByteAck (running .a1 0x06 0x00 State.reset) = .next t) ∧
    (∃ t, exec .readByteNak (running .a2 0x07 0x00 (unit 0x82 .none .read)) = .next t) :=
  ⟨⟨_, rfl⟩, ⟨_, rfl⟩, ⟨_, rfl⟩, ⟨_, rfl⟩, ⟨_, rfl⟩, ⟨_, rfl⟩, ⟨_, rfl⟩, ⟨_, rfl⟩⟩

theorem witness_FrameCommands :
    (∃ t, exec .cmdFlush (unit 0x4B .none .write) = .next t) ∧ (∃ t, exec .cmdStop (unit 0x42 .none .write) = .next t) ∧
    (∃ t, exec .cmdRecvAck (unit 0x82 .none .read) = .next t) ∧
    (∃ t, exec .cmdRecvNak (unit 0x82 .none .read) = .next t) :=
  ⟨⟨_, rfl⟩, ⟨_, rfl⟩, ⟨_, rfl⟩, ⟨_, rfl⟩⟩

end Sys2Proof.Tests
end

section
/-! The reset values of R25: the controller is disabled, its flags are clear, and the interrupt line is therefore low. -/

namespace Sys2Proof.Machine

/-- A disabled controller holds the interrupt line low, whatever its flags and enables (R24). -/
theorem State.irq_eq_false_of_disabled {s : State} (h : s.enable = false) : s.irq = false := by
  simp [State.irq, h]

/-- `CTRL` after reset: `ENABLE = 0` and `RIEN = WIEN = 0`. -/
@[simp] theorem State.reset_ctrlByte : State.reset.ctrlByte = 0x00 := by decide

/-- `STATUS` after reset: all flags clear and `BUSSTATE = UNKNOWN`. -/
@[simp] theorem State.reset_statusByte : State.reset.statusByte = 0x00 := by decide

/-- The interrupt line after reset: low, because the controller is disabled. -/
@[simp] theorem State.reset_irq : State.reset.irq = false := State.irq_eq_false_of_disabled rfl

/-- Settles O6: the two composed registers and the interrupt line by their lemmas, every other piece of the state by
the definition of `State.reset`. -/
theorem resetValues : Obligations.ResetValues := by
  unfold Obligations.ResetValues
  exact ⟨State.reset_ctrlByte, State.reset_statusByte, rfl, rfl, rfl, rfl, rfl, rfl, rfl, rfl,
    State.reset_irq, rfl, rfl⟩

end Sys2Proof.Machine
end

section
/-! Accesses by address (R41, R42): the two refusals, and the offsets at which the six registers stand. -/

namespace Sys2Proof.Machine

/-- The registers occupy no offset outside 3 to 8 (R41). -/
theorem Reg.offset_bounds (r : Reg) : 3 ≤ r.offset ∧ r.offset ≤ 8 := by
  cases r <;> decide

/-- An address that is not the address of a register holds none. -/
theorem regAt_eq_none {a : Address} (h : ∀ r : Reg, a ≠ r.address) : regAt a = none :=
  Option.eq_none_iff_forall_ne_some.mpr fun r hr => h r (regAt_eq_some hr)

/-- No register stands outside the offsets 3 to 8 from `TWI_BASE` (R41). -/
theorem regAt_eq_none_of_outside {a : Address} (h : ∀ n : Nat, 3 ≤ n → n ≤ 8 → a ≠ Config.twiBase + n) :
    regAt a = none :=
  regAt_eq_none fun r => h r.offset r.offset_bounds.1 r.offset_bounds.2

/-- A write of a width other than one byte is refused, whatever its address (R42). -/
theorem memWrite_of_size_ne_one {size : Nat} (h : size ≠ 1) (a : Address) (v : Byte) (s : State) :
    memWrite a size v s = .refused (.accessWidth size) := by
  simp [memWrite, h]

/-- A read of a width other than one byte is refused, whatever its address (R42). -/
theorem memRead_of_size_ne_one {size : Nat} (h : size ≠ 1) (a : Address) (s : State) (k : Byte → State → Result) :
    memRead a size s k = .refused (.accessWidth size) := by
  simp [memRead, h]

/-- A one-byte write where no register stands is refused (R42). -/
theorem memWrite_of_regAt_eq_none {a : Address} (h : regAt a = none) (v : Byte) (s : State) :
    memWrite a 1 v s = .refused (.noRegister a) := by
  simp [memWrite, h]

/-- A one-byte read where no register stands is refused (R42). -/
theorem memRead_of_regAt_eq_none {a : Address} (h : regAt a = none) (s : State) (k : Byte → State → Result) :
    memRead a 1 s k = .refused (.noRegister a) := by
  simp [memRead, h]

/-- Settles O18: the two refusals by the width and by the absence of a register; at the six offsets of R41, which are
the registers' own, an access by address is the access of the register. -/
theorem accessOutsideRegistersRefused : Obligations.AccessOutsideRegistersRefused := by
  unfold Obligations.AccessOutsideRegistersRefused
  intro a size v s k
  refine ⟨fun hsize => ?width, fun hoff => ?address, ?registers⟩
  case width => exact ⟨memWrite_of_size_ne_one hsize a v s, memRead_of_size_ne_one hsize a s k⟩
  case address =>
    have hnone : regAt a = none := regAt_eq_none_of_outside hoff
    exact ⟨memWrite_of_regAt_eq_none hnone v s, memRead_of_regAt_eq_none hnone s k⟩
  case registers =>
    exact ⟨memWrite_address .ctrl v s, memWrite_address .cmd v s, memWrite_address .status v s,
      memWrite_address .baud v s, memWrite_address .addr v s, memWrite_address .data v s,
      memRead_address .ctrl s k, memRead_address .cmd s k, memRead_address .status s k,
      memRead_address .baud s k, memRead_address .addr s k, memRead_address .data s k⟩

end Sys2Proof.Machine
end

section
/-! The opcode map of R61 read field by field: which request words match one of its rows, and so which are decoded and
which are reserved (R63). -/

namespace Sys2Proof

/-- A request word is put together from its own fields (R60). -/
@[simp] theorem reqWord_opcOf_opdOf (w : Word16) : reqWord (opcOf w) (opdOf w) = w :=
  (BitVec.extractLsb'_append_extractLsb'_eq_extractLsb' (start₁ := 0) (len₁ := 8) rfl).trans
    BitVec.extractLsb'_eq_self

/-- Two request words are equal exactly when their fields are (R60). -/
theorem word16_eq_iff_fields {w v : Word16} : w = v ↔ opcOf w = opcOf v ∧ opdOf w = opdOf v := by
  refine ⟨fun h => h ▸ ⟨rfl, rfl⟩, fun ⟨hc, hd⟩ => ?_⟩
  rw [← reqWord_opcOf_opdOf w, hc, hd, reqWord_opcOf_opdOf]

/-- Masking a word masks its opcode. -/
@[simp] theorem opcOf_and (w m : Word16) : opcOf (w &&& m) = opcOf w &&& opcOf m := BitVec.extractLsb'_and

/-- Masking a word masks its operand. -/
@[simp] theorem opdOf_and (w m : Word16) : opdOf (w &&& m) = opdOf w &&& opdOf m := BitVec.extractLsb'_and

/-- The mask `0xFF00` of R61 leaves the operand free: the opcode alone is compared. -/
theorem and_mask_opcode_eq_iff {w m : Word16} (hm : opdOf m = 0) : w &&& 0xFF00 = m ↔ opcOf w = opcOf m := by
  have hc : opcOf 0xFF00 = BitVec.allOnes 8 := by decide
  have hd : opdOf 0xFF00 = 0 := by decide
  rw [word16_eq_iff_fields, opcOf_and, opdOf_and, hc, hd, hm, BitVec.and_allOnes]
  simp

/-- The mask `0xFFFF` of R61 compares the whole word: opcode and operand. -/
theorem and_mask_word_eq_iff {w m : Word16} : w &&& 0xFFFF = m ↔ opcOf w = opcOf m ∧ opdOf w = opdOf m := by
  have hm : (0xFFFF : Word16) = BitVec.allOnes 16 := by decide
  rw [hm, BitVec.and_allOnes, word16_eq_iff_fields]

/-- An opcode below `0x08` is one of the eight of R61. -/
theorem opcode_lt_eight_iff {c : Byte} : c.toNat < 8 ↔
    c = opcInit ∨ c = opcStart ∨ c = opcRepeatedStart ∨ c = opcStartWithRetry ∨ c = opcStop ∨ c = opcWriteByte ∨
      c = opcReadByteAck ∨ c = opcReadByteNak := by
  simp only [opcInit, opcStart, opcRepeatedStart, opcStartWithRetry, opcStop, opcWriteByte, opcReadByteAck,
    opcReadByteNak]
  bv_omega

/-- The words that match a row of R61: an opcode that takes an operand, or one that takes none with operand zero. -/
theorem exists_row_matches_iff_fields (w : Word16) : (∃ r ∈ reqRows, r.matches w = true) ↔
    (opcOf w = opcInit ∧ opdOf w = 0) ∨ opcOf w = opcStart ∨ opcOf w = opcRepeatedStart ∨
      opcOf w = opcStartWithRetry ∨ (opcOf w = opcStop ∧ opdOf w = 0) ∨ opcOf w = opcWriteByte ∨
      (opcOf w = opcReadByteAck ∧ opdOf w = 0) ∨ (opcOf w = opcReadByteNak ∧ opdOf w = 0) := by
  simp (disch := decide) only [reqRows, List.exists_mem_cons_iff, List.not_mem_nil, false_and, exists_false, or_false,
    ReqRow.matches, beq_iff_eq, and_mask_word_eq_iff, and_mask_opcode_eq_iff]
  -- What remains differs only in the fields of the rows' `mtch`, which compute to the opcodes and to zero.
  rfl

/-- The check `reservedRequest` read as the proposition of R63. -/
theorem reservedRequest_iff (w : Word16) : reservedRequest w = true ↔
    8 ≤ (opcOf w).toNat ∨
      ((opcOf w = opcInit ∨ opcOf w = opcStop ∨ opcOf w = opcReadByteAck ∨ opcOf w = opcReadByteNak) ∧
        opdOf w ≠ 0) := by
  simp only [reservedRequest, Bool.or_eq_true, Bool.and_eq_true, decide_eq_true_eq]

/-- The two readings of R63 agree: the words that match no row of R61 are the reserved ones. -/
theorem exists_row_matches_iff (w : Word16) :
    (∃ r ∈ reqRows, r.matches w = true) ↔ reservedRequest w = false := by
  rw [← Bool.not_eq_true, reservedRequest_iff, exists_row_matches_iff_fields]
  by_cases hc : (opcOf w).toNat < 8
  · rcases opcode_lt_eight_iff.mp hc with h | h | h | h | h | h | h | h <;>
      simp [h, opcInit, opcStart, opcRepeatedStart, opcStartWithRetry, opcStop, opcWriteByte, opcReadByteAck,
        opcReadByteNak]
  · have hge : 8 ≤ (opcOf w).toNat := not_lt.mp hc
    have hne := mt opcode_lt_eight_iff.mpr hc
    simp only [not_or] at hne
    simp [hge, hne]

/-- A word that is not reserved is decoded, by a row of R61 and with its own operand. -/
theorem decodeReq_of_admitted {w : Word16} (h : reservedRequest w = false) :
    ∃ r ∈ reqRows, decodeReq w = .ok (r.build (opdOf w)) := by
  cases hr : reqRows.find? (·.matches w) with
  | some r => exact ⟨r, List.mem_of_find?_eq_some hr, by simp [decodeReq, hr]⟩
  | none =>
    obtain ⟨r, hmem, hmatch⟩ := (exists_row_matches_iff w).mpr h
    exact absurd hmatch (List.find?_eq_none.mp hr r hmem)

/-- A reserved word is rejected by the decoder (R63). -/
theorem decodeReq_of_reserved {w : Word16} (h : reservedRequest w = true) : ∃ e, decodeReq w = .error e := by
  cases hr : reqRows.find? (·.matches w) with
  | some r =>
    have hmatch : r.matches w = true := List.find?_some (p := (ReqRow.matches · w)) hr
    have hadm := (exists_row_matches_iff w).mp ⟨r, List.mem_of_find?_eq_some hr, hmatch⟩
    exact absurd h (by simp [hadm])
  | none =>
    simp only [decodeReq, hr]
    split <;> exact ⟨_, rfl⟩

end Sys2Proof
end

section
/-! What `HOST`'s turn at `READY` and a write of `CMD` make of reserved words and bytes, and of the others (R63, R66,
R96). -/

namespace Sys2Proof.Machine

/-- At `READY` an operation's step is the acceptance of its request (R125). -/
theorem operation_of_ready {s : State} (h : s.pc = .ready) (c d : Byte) (e : MicroPc) (f : State → Result) :
    operation c d e f s = .next (s.accept c d e) := if_pos h

/-- At `READY` the operation of every row of R61 is accepted, whatever its operand (R125). -/
theorem exec_row_of_ready {r : ReqRow} (hr : r ∈ reqRows) (d : Byte) {s : State} (h : s.pc = .ready) :
    ∃ t, exec (r.build d) s = .next t := by
  simp only [reqRows, List.mem_cons, List.not_mem_nil, or_false] at hr
  rcases hr with rfl | rfl | rfl | rfl | rfl | rfl | rfl | rfl <;> exact ⟨_, operation_of_ready h _ _ _ _⟩

/-- At `READY` a reserved request word is refused (R63). -/
theorem hostTurn_of_reserved {w : Word16} {s : State} (hpc : s.pc = .ready) (h : reservedRequest w = true) :
    hostTurn w s = .refused (.reservedRequest w) := by
  obtain ⟨e, he⟩ := decodeReq_of_reserved h
  simp [hostTurn, hpc, he]

/-- At `READY` a request word that is not reserved is accepted (R63, R125). -/
theorem hostTurn_of_admitted {w : Word16} {s : State} (hpc : s.pc = .ready) (h : reservedRequest w = false) :
    ∃ t, hostTurn w s = .next t := by
  obtain ⟨r, hr, hd⟩ := decodeReq_of_admitted h
  obtain ⟨t, ht⟩ := exec_row_of_ready hr (opdOf w) hpc
  exact ⟨t, by simp [hostTurn, hpc, hd, ht]⟩

/-- The check `reservedCommand` read as the proposition of R66. -/
theorem reservedCommand_iff (v : Byte) : reservedCommand v = true ↔
    v ≠ cmdFlushByte ∧ v ≠ cmdStopByte ∧ v ≠ cmdRecvAckByte ∧ v ≠ cmdRecvNakByte := by
  simp [reservedCommand, and_assoc]

/-- A write of `CMD` with a reserved byte is refused, in every state (R96). -/
theorem seqWrite_cmd_of_reserved {v : Byte} (h : reservedCommand v = true) (s : State) :
    seqWrite .cmd v s = .refused (.reservedCommand v) := by
  obtain ⟨hflush, hstop, hack, hnak⟩ := (reservedCommand_iff v).mp h
  simp [seqWrite, writeReg, writeCmd, hflush, hstop, hack, hnak]

/-- Settles O4: a word that matches no row of R61 is not decoded, so `HOST`'s turn refuses it; one that matches a row is
an operation, whose step at `READY` is its acceptance. A byte that is none of the four falls through `writeCmd`. -/
theorem reservedWordsRefused : Obligations.ReservedWordsRefused := by
  unfold Obligations.ReservedWordsRefused
  refine ⟨fun w s hpc => ⟨fun hres => ?reserved, fun hadm => ?admitted⟩, fun v s hflush hstop hack hnak => ?command⟩
  case reserved => exact hostTurn_of_reserved hpc ((reservedRequest_iff w).mpr hres)
  case admitted => exact hostTurn_of_admitted hpc (Bool.eq_false_iff.mpr (mt (reservedRequest_iff w).mp hadm))
  case command => exact seqWrite_cmd_of_reserved ((reservedCommand_iff v).mpr ⟨hflush, hstop, hack, hnak⟩) s

end Sys2Proof.Machine
end

section
/-! Register writes that complete in every state (R81, R84, R85, R86, R90): what the access leaves behind, said once for
each register, and what the write does in each of its branches. -/

namespace Sys2Proof.Machine

/-! ## Accesses that always complete -/

theorem seqWrite_ctrl (v : Byte) (s : State) :
    seqWrite .ctrl v s = .next ((writeCtrl v s).logReg (.w .ctrl v)) := rfl

theorem seqWrite_status (v : Byte) (s : State) :
    seqWrite .status v s = .next ((writeStatus v s).logReg (.w .status v)) := rfl

theorem seqWrite_baud (v : Byte) (s : State) :
    seqWrite .baud v s = .next ((writeBaud v s).logReg (.w .baud v)) := rfl

theorem seqWrite_addr (a : Byte) (s : State) :
    seqWrite .addr a s = .next ((writeAddr a s).logReg (.w .addr a)) := rfl

theorem exec_cmdFlush (s : State) :
    exec .cmdFlush s = .next ((flushCommand s).logReg (.w .cmd cmdFlushByte)) := rfl

/-! ## The branches of the writes -/

/-- Enabling takes the three bits and touches nothing else, `STATUS` included (R81). -/
theorem writeCtrl_of_enabling {v : Byte} (h : v[0] = true) (s : State) :
    writeCtrl v s = { s with rien := v[7], wien := v[6], enable := true } := if_pos h

/-- Disabling also clears `STATUS` and drops the phase (R81). -/
theorem writeCtrl_of_disabling {v : Byte} (h : v[0] = false) (s : State) :
    writeCtrl v s = { s with
      rien := v[7], wien := v[6], enable := false, phase := .none,
      rif := false, wif := false, rxack := false, arblost := false, buserr := false, busState := .unknown } :=
  if_neg (Bool.eq_false_iff.mp h)

/-- While enabled a write of `ADDR` posts the address phase, whatever phase stood there (R86). -/
theorem writeAddr_of_enabled {s : State} (h : s.enable = true) (a : Byte) :
    writeAddr a s = { s with addr := a }.clearIf.clearErr.post (.addr a) := if_pos h

/-- While disabled a write of `ADDR` is stored and nothing more (R80, R86). -/
theorem writeAddr_of_disabled {s : State} (h : s.enable = false) (a : Byte) :
    writeAddr a s = { s with addr := a } := if_neg (Bool.eq_false_iff.mp h)

/-- While enabled `FLUSH` clears the four flags and the phase (R90). -/
theorem flushCommand_of_enabled {s : State} (h : s.enable = true) :
    flushCommand s = s.clearIf.clearErr.post .none := if_pos h

/-- While disabled `FLUSH` does nothing (R80, R90). -/
theorem flushCommand_of_disabled {s : State} (h : s.enable = false) : flushCommand s = s :=
  if_neg (Bool.eq_false_iff.mp h)

/-- The force-idle test of `STATUS` looks at the two low bits alone: read as a field they are what the mask of R67
keeps. -/
theorem extractLow_eq_one_iff (v : Byte) : v.extractLsb' 0 2 = 0b01#2 ↔ v &&& 0x03 = 0x01 := by
  have hmod : v.toNat &&& 3 = v.toNat % 4 := Nat.and_two_pow_sub_one_eq_mod v.toNat 2
  simp [BitVec.toNat_eq, hmod]

/-- A flag written with one is cleared (R84). -/
theorem flag_of_write_one {w : Bool} (h : w = true) (flag : Bool) : (flag && !w) = false := by simp [h]

/-- A flag written with zero is kept (R84). -/
theorem flag_of_write_zero {w : Bool} (h : w = false) (flag : Bool) : (flag && !w) = flag := by simp [h]

/-- Writing `v[1:0] = 01` to `STATUS` forces idle and cancels the phase (R84). -/
theorem writeStatus_of_forceIdle {v : Byte} (h : v &&& 0x03 = 0x01) (s : State) :
    (writeStatus v s).busState = .idle ∧ (writeStatus v s).phase = .none :=
  have hlow := (extractLow_eq_one_iff v).mpr h
  ⟨if_pos hlow, if_pos hlow⟩

/-- Any other value of `v[1:0]` leaves `BUSSTATE` and the phase (R84). -/
theorem writeStatus_of_not_forceIdle {v : Byte} (h : v &&& 0x03 ≠ 0x01) (s : State) :
    (writeStatus v s).busState = s.busState ∧ (writeStatus v s).phase = s.phase :=
  have hlow := mt (extractLow_eq_one_iff v).mp h
  ⟨if_neg hlow, if_neg hlow⟩

/-- Settles O8: one clause for each value of the bit `ENABLE` written. -/
theorem controlWrite : Obligations.ControlWrite := by
  unfold Obligations.ControlWrite
  refine fun v s => ⟨fun henable => ?enabling, fun hdisable => ?disabling⟩
  case enabling => rw [seqWrite_ctrl, writeCtrl_of_enabling henable]; rfl
  case disabling => rw [seqWrite_ctrl, writeCtrl_of_disabling hdisable]; rfl

/-- Settles O9: each flag by the bit it is written with, `BUSSTATE` and the phase by the force-idle test; the frame is
the write's own record update. -/
theorem statusWrite : Obligations.StatusWrite := by
  unfold Obligations.StatusWrite
  exact fun v s => ⟨(writeStatus v s).logReg (.w .status v), seqWrite_status v s,
    (flag_of_write_one · s.rif), (flag_of_write_zero · s.rif),
    (flag_of_write_one · s.wif), (flag_of_write_zero · s.wif),
    (flag_of_write_one · s.arblost), (flag_of_write_zero · s.arblost),
    (flag_of_write_one · s.buserr), (flag_of_write_zero · s.buserr),
    (writeStatus_of_forceIdle · s), (writeStatus_of_not_forceIdle · s), rfl⟩

/-- Settles O10: `BAUD` is stored by the write, and the read returns the field and logs the access, by their
definitions. -/
theorem timingRegister : Obligations.TimingRegister := by
  unfold Obligations.TimingRegister
  exact fun v s => ⟨(writeBaud v s).logReg (.w .baud v), seqWrite_baud v s, rfl, rfl, rfl⟩

/-- Settles O11: one clause for each value of `CTL.ENABLE`. -/
theorem addressWrite : Obligations.AddressWrite := by
  unfold Obligations.AddressWrite
  refine fun a s => ⟨fun henabled => ?enabled, fun hdisabled => ?disabled⟩
  case enabled => rw [seqWrite_addr, writeAddr_of_enabled henabled]; rfl
  case disabled => rw [seqWrite_addr, writeAddr_of_disabled hdisabled]; rfl

end Sys2Proof.Machine
end

section
/-! Register writes with a condition (R88, R91, R92, R93): `DATA`, `STOP`, `RECV_ACK` and `RECV_NAK` all complete while
disabled, act under their condition of R95, and fault elsewhere. -/

namespace Sys2Proof.Machine

/-! ## The conditions of R95 while enabled -/

theorem State.inWindow_iff {s : State} (h : s.enable = true) :
    s.inWindow = true ↔ s.busState = .owner ∧ s.phase = .none := by
  simp [State.inWindow, h]

theorem State.canTransmit_iff {s : State} (h : s.enable = true) :
    s.canTransmit = true ↔ s.busState = .owner ∧ s.phase = .none ∧ s.dir = .write := by
  simp [State.canTransmit, State.inWindow_iff h, and_assoc]

theorem State.canStop_iff {s : State} (h : s.enable = true) :
    s.canStop = true ↔ s.busState = .owner ∧ s.phase = .none := State.inWindow_iff h

theorem State.canReceive_iff {s : State} (h : s.enable = true) :
    s.canReceive = true ↔ s.busState = .owner ∧ s.phase = .none ∧ s.dir = .read ∧ s.rif = true := by
  simp [State.canReceive, State.inWindow_iff h, and_assoc]

/-! ## One rule for the four accesses -/

/-- What an access does whose register write `o` has the three cases of R95: `idle` while disabled, `act` under the
condition `P`, a fault elsewhere. -/
theorem seqWrite_conditional {r : Reg} {v : Byte} {s idle act : State} {o : Result} {c : Bool} {P : Prop}
    (hwrite : writeReg r v s = o)
    (hcases : (s.enable = false ∧ o = .next idle) ∨ (s.enable = true ∧ c = true ∧ o = .next act) ∨
      (s.enable = true ∧ c = false ∧ o = .fault .undefinedSequence))
    (hcond : s.enable = true → (c = true ↔ P)) :
    (s.enable = false → seqWrite r v s = .next (idle.logReg (.w r v))) ∧
    (s.enable = true → P → seqWrite r v s = .next (act.logReg (.w r v))) ∧
    (s.enable = true → ¬P → seqWrite r v s = .fault .undefinedSequence) := by
  subst hwrite
  rcases hcases with ⟨hdis, ho⟩ | ⟨hen, hc, ho⟩ | ⟨hen, hc, ho⟩
  · simp [hdis, seqWrite, ho]
  · simp [hen, (hcond hen).mp hc, seqWrite, ho]
  · have hP : ¬P := fun hP => by simp [(hcond hen).mpr hP] at hc
    simp [hen, hP, seqWrite, ho]

/-- Settles O12: the condition is the window in the write direction. -/
theorem dataWrite : Obligations.DataWrite := by
  unfold Obligations.DataWrite
  intro d s
  obtain ⟨hdisabled, hinside, houtside⟩ :=
    seqWrite_conditional (r := .data) rfl (writeData_cases d s) State.canTransmit_iff
  exact ⟨hdisabled, fun hen hbus hphase hdir => hinside hen ⟨hbus, hphase, hdir⟩, houtside⟩

end Sys2Proof.Machine

/-! Apart from `Sys2Proof.Machine`, where the model's own definitions of the commands have the names that the theorems
about them take from their obligations. -/
namespace Sys2Proof.RegisterActions

open Sys2Proof.Machine

/-- Settles O13: one clause for each value of `CTL.ENABLE`. -/
theorem flushCommand : Obligations.FlushCommand := by
  unfold Obligations.FlushCommand
  refine fun s => ⟨fun henabled => ?enabled, fun hdisabled => ?disabled⟩
  case enabled => rw [exec_cmdFlush, flushCommand_of_enabled henabled]; rfl
  case disabled => rw [exec_cmdFlush, flushCommand_of_disabled hdisabled]; rfl

/-- Settles O14: the condition is the window, in either direction. -/
theorem stopCommand : Obligations.StopCommand := by
  unfold Obligations.StopCommand
  intro s
  obtain ⟨hdisabled, hinside, houtside⟩ :=
    seqWrite_conditional (r := .cmd) (writeCmd_stop s) (stopCommand_cases s) State.canStop_iff
  exact ⟨hdisabled, fun hen hbus hphase => hinside hen ⟨hbus, hphase⟩, houtside⟩

/-- Settles O15: the condition is the window in the read direction with a received byte waiting. -/
theorem recvAckCommand : Obligations.RecvAckCommand := by
  unfold Obligations.RecvAckCommand
  intro s
  obtain ⟨hdisabled, hinside, houtside⟩ :=
    seqWrite_conditional (r := .cmd) (writeCmd_recvAck s) (recvAckCommand_cases s) State.canReceive_iff
  exact ⟨hdisabled, fun hen hbus hphase hdir hrif => hinside hen ⟨hbus, hphase, hdir, hrif⟩, houtside⟩

/-- Settles O16: the condition is that of `RECV_ACK`. -/
theorem recvNakCommand : Obligations.RecvNakCommand := by
  unfold Obligations.RecvNakCommand
  intro s
  obtain ⟨hdisabled, hinside, houtside⟩ :=
    seqWrite_conditional (r := .cmd) (writeCmd_recvNak s) (recvNakCommand_cases s) State.canReceive_iff
  exact ⟨hdisabled, fun hen hbus hphase hdir hrif => hinside hen ⟨hbus, hphase, hdir, hrif⟩, houtside⟩

end Sys2Proof.RegisterActions
end

section
/-! The bus engine and the environment (R111 to R118): when each posted phase is performed, and what is left of it for
every answer of the bus. -/

namespace Sys2Proof.Machine

/-! ## When a posted phase is performed (R110, R111) -/

theorem BusState.canAddress_iff (b : BusState) : b.canAddress = true ↔ b = .idle ∨ b = .owner := by
  cases b <;> decide

/-- The address phase waits for a bus that is idle or owned (R111). -/
theorem State.engineEnabled_addr_iff {s : State} {a : Byte} (hphase : s.phase = .addr a) :
    s.engineEnabled = true ↔ s.enable = true ∧ (s.busState = .idle ∨ s.busState = .owner) := by
  simp [State.engineEnabled, hphase, BusState.canAddress_iff]

theorem State.engineEnabled_of_tx {s : State} {b : Byte} (henable : s.enable = true) (hphase : s.phase = .tx b) :
    s.engineEnabled = true := by simp [State.engineEnabled, henable, hphase]

theorem State.engineEnabled_of_rx {s : State} (henable : s.enable = true) (hphase : s.phase = .rx) :
    s.engineEnabled = true := by simp [State.engineEnabled, henable, hphase]

theorem State.engineEnabled_of_stop {s : State} (henable : s.enable = true) (hphase : s.phase = .stop) :
    s.engineEnabled = true := by simp [State.engineEnabled, henable, hphase]

/-! ## Which step the engine's turn is -/

theorem engineStep_of_addr {s : State} {a : Byte} (henabled : s.engineEnabled = true) (hphase : s.phase = .addr a)
    (d : Draws) : engineStep d s = gAddr a d s := by simp [engineStep, henabled, hphase]

theorem engineStep_of_tx {s : State} {b : Byte} (henable : s.enable = true) (hphase : s.phase = .tx b) (d : Draws) :
    engineStep d s = gTx b d s := by simp [engineStep, State.engineEnabled_of_tx henable hphase, hphase]

theorem engineStep_of_rx {s : State} (henable : s.enable = true) (hphase : s.phase = .rx) (d : Draws) :
    engineStep d s = receive d s := by simp [engineStep, State.engineEnabled_of_rx henable hphase, hphase, gRx]

theorem engineStep_of_stop {s : State} (henable : s.enable = true) (hphase : s.phase = .stop) (d : Draws) :
    engineStep d s = gStop s := by simp [engineStep, State.engineEnabled_of_stop henable hphase, hphase]

/-! ## The parts the engine's steps are built from -/

theorem busStateOf_eq (x : IdleOrBusy) : busStateOf x = if x = .idle then .idle else .busy := by cases x <;> rfl

/-- `ErrorOutcome(ArbLost)` (R116). -/
theorem arbLostOutcome_eq (d : Draws) (s : State) : arbLostOutcome d s = { s with
    busState := .busy, rxack := d.rxack, arblost := true, wif := true, phase := .none,
    busLog := s.busLog ++ [.arbLostEv] } := rfl

/-- `ErrorOutcome(BusErr)` (R116). -/
theorem busErrOutcome_eq (d : Draws) (s : State) : busErrOutcome d s = { s with
    busState := if d.busAfterErr = .idle then .idle else .busy, rxack := d.rxack, buserr := true, wif := true,
    phase := .none, busLog := s.busLog ++ [.busErrEv] } := by
  rw [← busStateOf_eq]; rfl

/-- The direction an address byte opens, by the bit itself (R18). -/
theorem Dir.ofByte_eq (a : Byte) : Dir.ofByte a = if a[0] = true then .read else .write := rfl

/-- The condition and the address byte on the bus, before any answer (R111). -/
theorem addressSent_eq (a : Byte) (s : State) : addressSent a s = { s with
    busState := .owner, dir := if a[0] = true then .read else .write,
    busLog := s.busLog ++ [if s.busState = .idle then .start else .repStart, .addrByte a] } := by
  simp [addressSent, State.emit, Dir.ofByte_eq]

theorem acknowledged_eq (s : State) :
    acknowledged s = { s with rxack := false, busLog := s.busLog ++ [.ackIn] } := rfl

theorem notAcknowledged_eq (s : State) :
    notAcknowledged s = { s with rxack := true, busLog := s.busLog ++ [.nakIn] } := rfl

/-! ## The branches of a reception (R111, R114) -/

section
variable {d : Draws}

theorem receive_of_byte {b : Byte} (hrx : d.rx = .byte b) (s : State) : receive d s = { s with
    data := b, rif := true, phase := .none, busLog := s.busLog ++ [.rxData b] } := by
  simp [receive, hrx, State.emit]

theorem receive_of_arbLost (hrx : d.rx = .arbLost) (s : State) : receive d s = arbLostOutcome d s := by
  simp [receive, hrx]

theorem receive_of_busErr (hrx : d.rx = .busErr) (s : State) : receive d s = busErrOutcome d s := by
  simp [receive, hrx]

/-! ## The branches of the address phase (R111) -/

theorem gAddr_of_ack_write {a : Byte} (hans : d.ans = .ack) (hdir : dirBit a = false) (s : State) :
    gAddr a d s = { acknowledged (addressSent a s) with wif := true, phase := .none } := by
  simp [gAddr, hans, hdir]

theorem gAddr_of_ack_read {a : Byte} (hans : d.ans = .ack) (hdir : dirBit a = true) (s : State) :
    gAddr a d s = receive d (acknowledged (addressSent a s)) := by
  simp [gAddr, hans, hdir]

theorem gAddr_of_nak (hans : d.ans = .nak) (a : Byte) (s : State) :
    gAddr a d s = { notAcknowledged (addressSent a s) with wif := true, phase := .stop } := by
  simp [gAddr, hans]

theorem gAddr_of_arbLost (hans : d.ans = .arbLost) (a : Byte) (s : State) :
    gAddr a d s = arbLostOutcome d (addressSent a s) := by
  simp [gAddr, hans]

theorem gAddr_of_busErr (hans : d.ans = .busErr) (a : Byte) (s : State) :
    gAddr a d s = busErrOutcome d (addressSent a s) := by
  simp [gAddr, hans]

/-! ## The branches of the transmit phase (R113) -/

theorem gTx_of_ack (hans : d.ans = .ack) (b : Byte) (s : State) : gTx b d s = { s with
    rxack := false, wif := true, phase := .none, busLog := s.busLog ++ [.txData b, .ackIn] } := by
  simp [gTx, hans, acknowledged_eq, State.emit]

theorem gTx_of_nak (hans : d.ans = .nak) (b : Byte) (s : State) : gTx b d s = { s with
    rxack := true, wif := true, phase := .none, busLog := s.busLog ++ [.txData b, .nakIn] } := by
  simp [gTx, hans, notAcknowledged_eq, State.emit]

theorem gTx_of_arbLost (hans : d.ans = .arbLost) (b : Byte) (s : State) :
    gTx b d s = arbLostOutcome d (s.emit (.txData b)) := by
  simp [gTx, hans]

theorem gTx_of_busErr (hans : d.ans = .busErr) (b : Byte) (s : State) :
    gTx b d s = busErrOutcome d (s.emit (.txData b)) := by
  simp [gTx, hans]

end

/-- Settles O20: the phase is performed on a bus that is idle or owned; then one clause for each answer, the ACK of a
read by what is received in its place. -/
theorem addressPhase : Obligations.AddressPhase := by
  unfold Obligations.AddressPhase
  intro a d s hphase
  refine ⟨State.engineEnabled_addr_iff hphase, fun henable hbus => ?_⟩
  rw [engineStep_of_addr ((State.engineEnabled_addr_iff hphase).mpr ⟨henable, hbus⟩) hphase]
  refine ⟨fun hans hdir => ?ackWrite, fun b hans hdir hrx => ?ackReadByte, fun hans hdir hrx => ?ackReadArbLost,
    fun hans hdir hrx => ?ackReadBusErr, fun hans => ?nak, fun hans => ?arbLost, fun hans => ?busErr⟩
  case ackWrite => simp [gAddr_of_ack_write hans hdir, addressSent_eq, acknowledged_eq]
  case ackReadByte =>
    simp [gAddr_of_ack_read hans hdir, receive_of_byte hrx, addressSent_eq, acknowledged_eq]
  case ackReadArbLost =>
    simp [gAddr_of_ack_read hans hdir, receive_of_arbLost hrx, arbLostOutcome_eq, addressSent_eq, acknowledged_eq]
  case ackReadBusErr =>
    simp [gAddr_of_ack_read hans hdir, receive_of_busErr hrx, busErrOutcome_eq, addressSent_eq, acknowledged_eq]
  case nak => simp [gAddr_of_nak hans, addressSent_eq, notAcknowledged_eq]
  case arbLost => simp [gAddr_of_arbLost hans, arbLostOutcome_eq, addressSent_eq]
  case busErr => simp [gAddr_of_busErr hans, busErrOutcome_eq, addressSent_eq]

/-- Settles O21: one clause for each answer; only the two errors change `BUSSTATE`. -/
theorem transmitPhase : Obligations.TransmitPhase := by
  unfold Obligations.TransmitPhase
  intro b d s henable hphase
  rw [engineStep_of_tx henable hphase]
  refine ⟨State.engineEnabled_of_tx henable hphase, fun hans => gTx_of_ack hans b s, fun hans => gTx_of_nak hans b s,
    fun hans => ?arbLost, fun hans => ?busErr⟩
  case arbLost => simp [gTx_of_arbLost hans, arbLostOutcome_eq, State.emit]
  case busErr => simp [gTx_of_busErr hans, busErrOutcome_eq, State.emit]

/-- Settles O22: the step is a reception; an error in place of the byte ends as any error outcome does. -/
theorem receivePhase : Obligations.ReceivePhase := by
  unfold Obligations.ReceivePhase
  intro d s henable hphase
  rw [engineStep_of_rx henable hphase]
  exact ⟨State.engineEnabled_of_rx henable hphase, fun b hrx => receive_of_byte hrx s,
    fun hrx => (receive_of_arbLost hrx s).trans (arbLostOutcome_eq d s),
    fun hrx => (receive_of_busErr hrx s).trans (busErrOutcome_eq d s)⟩

/-- Settles O23: the step of a posted stop takes no draw. -/
theorem stopPhase : Obligations.StopPhase := by
  unfold Obligations.StopPhase
  exact fun d s henable hphase =>
    ⟨State.engineEnabled_of_stop henable hphase, engineStep_of_stop henable hphase d⟩

/-- `E-FREE` on a busy bus (R117). -/
theorem envFreeStep_of_busy {s : State} (h : s.busState = .busy) : envFreeStep s = { s with busState := .idle } :=
  if_pos h

/-- `E-TAKE` on an idle bus (R118). -/
theorem envTakeStep_of_idle {s : State} (h : s.busState = .idle) : envTakeStep s = { s with busState := .busy } :=
  if_pos h

/-- Settles O24: each turn is its step, enabled by the bus state it starts from. -/
theorem environmentSteps : Obligations.EnvironmentSteps := by
  unfold Obligations.EnvironmentSteps
  exact fun s => ⟨fun hbusy => congrArg Host.Outcome.next (envFreeStep_of_busy hbusy),
    fun hidle => congrArg Host.Outcome.next (envTakeStep_of_idle hidle)⟩

end Sys2Proof.Machine
end

section
/-! The reset event (R180): what software can see of the block afterwards is what it sees of the reset state, whatever
operation, posted phase or hang the event ends; the bus log is carried over. -/

namespace Sys2Proof.Machine

/-- The platform's turn is the reset event, which no state refuses (R180). -/
@[simp] theorem runMove_reset (s : State) : runMove .reset s = .next (resetEvent s) := rfl

/-- The logs kept over a reset are no part of `CTRL`. -/
@[simp] theorem resetEvent_ctrlByte (s : State) : (resetEvent s).ctrlByte = State.reset.ctrlByte := rfl

/-- The logs kept over a reset are no part of `STATUS`. -/
@[simp] theorem resetEvent_statusByte (s : State) : (resetEvent s).statusByte = State.reset.statusByte := rfl

/-- The interrupt line after the reset event: low, because the controller is disabled. -/
@[simp] theorem resetEvent_irq (s : State) : (resetEvent s).irq = false := State.irq_eq_false_of_disabled rfl

/-- A posted phase is dropped without a bus event (R180). -/
@[simp] theorem resetEvent_busLog (s : State) : (resetEvent s).busLog = s.busLog := rfl

/-- Settles O7: the two composed registers are those of the reset state, the interrupt line is low because the
controller is disabled, the bus log is the old one, and every other value is the reset state's own. -/
theorem resetEventEffect : Obligations.ResetEventEffect := by
  unfold Obligations.ResetEventEffect
  intro s
  have hctrl : (resetEvent s).ctrlByte = 0x00 := (resetEvent_ctrlByte s).trans State.reset_ctrlByte
  have hstatus : (resetEvent s).statusByte = 0x00 := (resetEvent_statusByte s).trans State.reset_statusByte
  have hbus : (resetEvent s).busLog <+: s.busLog := (resetEvent_busLog s).symm ▸ List.prefix_rfl
  exact ⟨resetEvent s, runMove_reset s, hctrl, hstatus, rfl, rfl, rfl, rfl, rfl, rfl, rfl, resetEvent_irq s, hbus⟩

end Sys2Proof.Machine
end

section
/-! The decoder and the encoder (R60, R61, R65): each undoes the other, on request words and on command bytes. -/

namespace Sys2Proof

/-- Two request words with equal fields: the one decides the other (R60). -/
theorem reqWord_eq_iff {c d : Byte} {w : Word16} : reqWord c d = w ↔ opcOf w = c ∧ opdOf w = d := by
  simp [word16_eq_iff_fields, eq_comm]

/-- The words that match a row of R61 all have the row's opcode. -/
theorem opcOf_of_matches {r : ReqRow} (hr : r ∈ reqRows) {w : Word16} (h : r.matches w = true) :
    opcOf w = opcOf r.mtch := by
  simp only [reqRows, List.mem_cons, List.not_mem_nil, or_false] at hr
  rcases hr with rfl | rfl | rfl | rfl | rfl | rfl | rfl | rfl <;>
    simp (disch := decide) only [ReqRow.matches, beq_iff_eq, and_mask_word_eq_iff, and_mask_opcode_eq_iff] at h <;>
    simp only [h]

/-- No two rows of R61 have one opcode. -/
theorem reqRow_eq_of_opcode {r q : ReqRow} (hr : r ∈ reqRows) (hq : q ∈ reqRows)
    (h : opcOf r.mtch = opcOf q.mtch) : r = q :=
  List.inj_on_of_nodup_map (f := fun r : ReqRow => opcOf r.mtch) (by decide) hr hq h

/-- A request word is decoded by the one row of R61 it matches. -/
theorem decodeReq_of_matches {r : ReqRow} (hr : r ∈ reqRows) {w : Word16} (h : r.matches w = true) :
    decodeReq w = .ok (r.build (opdOf w)) := by
  cases hq : reqRows.find? (·.matches w) with
  | none => exact absurd h (List.find?_eq_none.mp hq r hr)
  | some q =>
    have hmatch : q.matches w = true := List.find?_some (p := (ReqRow.matches · w)) hq
    have hmem := List.mem_of_find?_eq_some hq
    have heq : q = r :=
      reqRow_eq_of_opcode hmem hr ((opcOf_of_matches hmem hmatch).symm.trans (opcOf_of_matches hr h))
    simp [decodeReq, hq, heq]

/-- A request word that matches a row of R61 is the word of the operation the row builds from its operand. -/
theorem encode_build_of_matches {r : ReqRow} (hr : r ∈ reqRows) {w : Word16} (h : r.matches w = true) :
    encode (r.build (opdOf w)) = .req w := by
  simp only [reqRows, List.mem_cons, List.not_mem_nil, or_false] at hr
  rcases hr with rfl | rfl | rfl | rfl | rfl | rfl | rfl | rfl <;>
    simp (disch := decide) only [ReqRow.matches, beq_iff_eq, and_mask_word_eq_iff, and_mask_opcode_eq_iff] at h <;>
    simp only [encode, CodeWord.req.injEq, reqWord_eq_iff, h] <;> decide

/-- A row of R61 that leaves the operand free matches its opcode with any operand. -/
theorem matches_of_free_operand {m : Word16} (hm : opdOf m = 0) (build : Byte → Instr) (d : Byte) :
    (ReqRow.mk m 0xFF00 build).matches (reqWord (opcOf m) d) = true :=
  beq_iff_eq.mpr ((and_mask_opcode_eq_iff hm).mpr (opcOf_reqWord _ d))

/-- The word of every operation matches a row of R61, which builds the operation from its operand. -/
theorem exists_row_of_encode {i : Instr} {w : Word16} (h : encode i = .req w) :
    ∃ r ∈ reqRows, r.matches w = true ∧ r.build (opdOf w) = i := by
  cases i with
  | init => cases h; exact ⟨reqRows[0], List.getElem_mem _, by decide, rfl⟩
  | start a =>
    cases h
    exact ⟨reqRows[1], List.getElem_mem _, matches_of_free_operand rfl _ a, congrArg _ (opdOf_reqWord _ a)⟩
  | repeatedStart a =>
    cases h
    exact ⟨reqRows[2], List.getElem_mem _, matches_of_free_operand rfl _ a, congrArg _ (opdOf_reqWord _ a)⟩
  | startWithRetry a =>
    cases h
    exact ⟨reqRows[3], List.getElem_mem _, matches_of_free_operand rfl _ a, congrArg _ (opdOf_reqWord _ a)⟩
  | stop => cases h; exact ⟨reqRows[4], List.getElem_mem _, by decide, rfl⟩
  | writeByte d =>
    cases h
    exact ⟨reqRows[5], List.getElem_mem _, matches_of_free_operand rfl _ d, congrArg _ (opdOf_reqWord _ d)⟩
  | readByteAck => cases h; exact ⟨reqRows[6], List.getElem_mem _, by decide, rfl⟩
  | readByteNak => cases h; exact ⟨reqRows[7], List.getElem_mem _, by decide, rfl⟩
  | cmdFlush | cmdStop | cmdRecvAck | cmdRecvNak => cases h

/-- The decoder reads a request word as the operation it is the word of (R61). -/
theorem decodeReq_eq_ok_iff {w : Word16} {i : Instr} : decodeReq w = .ok i ↔ encode i = .req w := by
  constructor
  · intro h
    have hadmitted : reservedRequest w = false := by
      by_contra hres
      obtain ⟨e, he⟩ := decodeReq_of_reserved (Bool.not_eq_false _ ▸ hres)
      simp [he] at h
    obtain ⟨r, hr, hmatch⟩ := (exists_row_matches_iff w).mpr hadmitted
    rw [decodeReq_of_matches hr hmatch] at h
    cases h
    exact encode_build_of_matches hr hmatch
  · intro h
    obtain ⟨r, hr, hmatch, rfl⟩ := exists_row_of_encode h
    exact decodeReq_of_matches hr hmatch

/-- The decoder reads a command byte as the command it is the byte of (R65, R66). -/
theorem decodeCmd_eq_ok_iff {v : Byte} {i : Instr} : decodeCmd v = .ok i ↔ encode i = .cmd v := by
  constructor
  · intro h
    unfold decodeCmd at h
    split_ifs at h with hflush hstop hack hnak <;> cases h <;> subst v <;> rfl
  · intro h
    cases i with
    | cmdFlush | cmdStop | cmdRecvAck | cmdRecvNak => cases h; rfl
    | init | start _ | repeatedStart _ | startWithRetry _ | stop | writeByte _ | readByteAck | readByteNak => cases h

/-- The decoder reads a word of either format as the instruction it is the word of. -/
theorem decode_eq_ok_iff {w : CodeWord} {i : Instr} : decode w = .ok i ↔ encode i = w := by
  cases w with
  | req w => exact decodeReq_eq_ok_iff
  | cmd v => exact decodeCmd_eq_ok_iff

/-- Settles O1: the decoder reads exactly the instruction's own word. -/
theorem decodeEncodeRoundTrip : Obligations.DecodeEncodeRoundTrip := by
  unfold Obligations.DecodeEncodeRoundTrip
  exact fun i => decode_eq_ok_iff.mpr rfl

/-- Settles O2: the other direction of the same equivalence. -/
theorem encodeDecodeRoundTrip : Obligations.EncodeDecodeRoundTrip := by
  unfold Obligations.EncodeDecodeRoundTrip
  exact fun w i h => decode_eq_ok_iff.mp h

/-- Settles O3: the decoder run on each of the fifteen words. -/
theorem sampleWordsDecode : Obligations.SampleWordsDecode := by
  unfold Obligations.SampleWordsDecode
  decide

end Sys2Proof
end

section
/-! The address+direction byte (R62) and the assembler's lines (R68). -/

namespace Sys2Proof

/-- An address+direction byte read as a number: the direction is its lowest bit (R62). -/
theorem toNat_addrByte (sla7 : BitVec 7) (dir : Bool) : (addrByte sla7 dir).toNat = 2 * sla7.toNat + dir.toNat := by
  have hdir : dir.toNat < 2 ^ 1 := dir.toNat_lt
  rw [addrByte, BitVec.toNat_append, BitVec.toNat_ofBool, ← Nat.shiftLeft_add_eq_or_of_lt hdir, Nat.shiftLeft_eq]
  omega

/-- The slave address comes back from the byte (R62). -/
@[simp] theorem sla7Of_addrByte (sla7 : BitVec 7) (dir : Bool) : sla7Of (addrByte sla7 dir) = sla7 := by
  have hdir : dir.toNat < 2 := dir.toNat_lt
  apply BitVec.eq_of_toNat_eq
  rw [sla7Of, BitVec.extractLsb'_toNat, toNat_addrByte, Nat.shiftRight_eq_div_pow]
  omega

/-- The direction comes back from the byte (R62). -/
@[simp] theorem dirBit_addrByte (sla7 : BitVec 7) (dir : Bool) : dirBit (addrByte sla7 dir) = dir := by
  rw [dirBit, BitVec.getElem_eq_testBit_toNat, toNat_addrByte]
  cases dir <;> simp [Nat.add_mod]

/-- Every byte is the address+direction byte of its own fields (R62). -/
@[simp] theorem addrByte_sla7Of_dirBit (a : Byte) : addrByte (sla7Of a) (dirBit a) = a := by
  have hbit : BitVec.ofBool (dirBit a) = a.extractLsb' 0 1 := by
    apply BitVec.eq_of_getElem_eq
    intro k hk
    obtain rfl : k = 0 := by omega
    simp [dirBit]
  rw [addrByte, hbit, sla7Of]
  exact (BitVec.extractLsb'_append_extractLsb'_eq_extractLsb' (start₁ := 0) (len₁ := 1) rfl).trans
    BitVec.extractLsb'_eq_self

/-- The byte of `W(sla7)` and `R(sla7)` as a literal (R68). -/
theorem addrByte_ofNat (n : Nat) (dir : Bool) :
    addrByte (BitVec.ofNat 7 n) dir = BitVec.ofNat 8 (2 * n + dir.toNat) := by
  have hdir : dir.toNat < 2 := dir.toNat_lt
  apply BitVec.eq_of_toNat_eq
  rw [toNat_addrByte, BitVec.toNat_ofNat, BitVec.toNat_ofNat]
  omega

/-- The operation a line names is written as a request word (R68). -/
theorem AsmLine.encode_instr (l : AsmLine) : ∃ w, encode l.instr = .req w := by
  cases l <;> exact ⟨_, rfl⟩

/-- A line in range assembles to the word of its operation (R68). -/
theorem assemble_of_wf {l : AsmLine} {w : Word16} (hwf : l.wf = true) (hw : encode l.instr = .req w) :
    assemble l = some w := by
  simp [assemble, hwf, hw]

/-- Two in-range operands of one byte assemble `start` to one word. -/
theorem assemble_start_congr {o p : AsmOperand} (ho : o.wf = true) (hp : p.wf = true) (h : o.byte = p.byte) :
    assemble (.start o) = assemble (.start p) := by
  simp [assemble, AsmLine.wf, AsmLine.instr, ho, hp, h]

/-- Settles O5: the fields by the byte's own lemmas, the two pseudo-forms by the number they stand for, a line in range by
the word of its operation. -/
theorem operandAssembly : Obligations.OperandAssembly := by
  unfold Obligations.OperandAssembly
  refine ⟨fun sla7 dir => ⟨sla7Of_addrByte sla7 dir, dirBit_addrByte sla7 dir⟩, addrByte_sla7Of_dirBit,
    fun n hn => ?forms, fun l hwf => ?inRange, fun l hwf => ?outOfRange⟩
  case forms =>
    have hwrite : AsmOperand.wf (.literal (2 * n)) = true := decide_eq_true (by omega)
    have hread : AsmOperand.wf (.literal (2 * n + 1)) = true := decide_eq_true (by omega)
    exact ⟨assemble_start_congr (decide_eq_true hn) hwrite (addrByte_ofNat n false),
      assemble_start_congr (decide_eq_true hn) hread (addrByte_ofNat n true)⟩
  case inRange =>
    obtain ⟨w, hw⟩ := l.encode_instr
    exact ⟨w, assemble_of_wf hwf hw, decodeReq_eq_ok_iff.mpr hw⟩
  case outOfRange => simp [assemble, hwf]

end Sys2Proof
end

section
/-! What the step of an operation is: its acceptance at `READY`, and afterwards a step of the micro-program its opcode
names (R125, R126). -/

namespace Sys2Proof.Machine

/-- The label at which the operation with opcode `c` starts (R125). -/
def entryLabel (c : Byte) : MicroPc :=
  if c = opcInit then .i0
  else if c = opcStart ∨ c = opcRepeatedStart ∨ c = opcStartWithRetry then .s0
  else if c = opcStop then .p0
  else if c = opcWriteByte then .x0
  else .a0

/-- The micro-program of the operation with opcode `c` (R126). -/
def microOf (c : Byte) : State → Result :=
  if c = opcInit then initMicro
  else if c = opcStart ∨ c = opcRepeatedStart then startMicro
  else if c = opcStartWithRetry then retryMicro
  else if c = opcStop then stopMicro
  else if c = opcWriteByte then writeMicro
  else readMicro

@[simp] theorem microOf_init : microOf opcInit = initMicro := rfl
@[simp] theorem microOf_start : microOf opcStart = startMicro := rfl
@[simp] theorem microOf_repeatedStart : microOf opcRepeatedStart = startMicro := rfl
@[simp] theorem microOf_startWithRetry : microOf opcStartWithRetry = retryMicro := rfl
@[simp] theorem microOf_stop : microOf opcStop = stopMicro := rfl
@[simp] theorem microOf_writeByte : microOf opcWriteByte = writeMicro := rfl
@[simp] theorem microOf_readByteAck : microOf opcReadByteAck = readMicro := rfl
@[simp] theorem microOf_readByteNak : microOf opcReadByteNak = readMicro := rfl

/-- The step of every operation, from the two fields of its request word. -/
theorem exec_eq_operation {i : Instr} {w : Word16} (h : encode i = .req w) :
    exec i = operation (opcOf w) (opdOf w) (entryLabel (opcOf w)) (microOf (opcOf w)) := by
  cases i with
  | cmdFlush | cmdStop | cmdRecvAck | cmdRecvNak => cases h
  | init | start _ | repeatedStart _ | startWithRetry _ | stop | writeByte _ | readByteAck | readByteNak =>
    cases h; rw [opcOf_reqWord, opdOf_reqWord]; rfl

/-- At `READY` the step of an operation is the acceptance of its request (R125). -/
theorem exec_of_ready {i : Instr} {w : Word16} {s : State} (h : encode i = .req w) (hpc : s.pc = .ready) :
    exec i s = .next (s.accept (opcOf w) (opdOf w) (entryLabel (opcOf w))) := by
  rw [exec_eq_operation h, operation_of_ready hpc]

/-- While it runs, the step of the operation in the latches is one of its micro-program (R126). -/
theorem exec_of_running {i : Instr} {s : State} (h : encode i = .req (reqWord s.op s.arg)) (hpc : s.pc ≠ .ready) :
    exec i s = microOf s.op s := by
  simp [exec_eq_operation h, operation, hpc]

/-- The step of an operation that goes on: its acceptance, or a step of its micro-program while the latches hold it. -/
theorem exec_eq_next {i : Instr} {w : Word16} {s t : State} (hi : encode i = .req w) (h : exec i s = .next t) :
    (s.pc = .ready ∧ t = s.accept (opcOf w) (opdOf w) (entryLabel (opcOf w))) ∨
    (s.pc ≠ .ready ∧ s.op = opcOf w ∧ s.arg = opdOf w ∧ microOf (opcOf w) s = .next t) := by
  rw [exec_eq_operation hi] at h
  rcases operation_cases (opcOf w) (opdOf w) (entryLabel (opcOf w)) (microOf (opcOf w)) s with
    ⟨hpc, he⟩ | ⟨hpc, hop, harg, he⟩ | ⟨-, -, he⟩
  · exact .inl ⟨hpc, (Host.Outcome.next.inj (he.symm.trans h)).symm⟩
  · exact .inr ⟨hpc, hop, harg, he.symm.trans h⟩
  · cases he.symm.trans h

/-- At `READY` a request that is not reserved is accepted, at the label its opcode names (R125). -/
theorem hostTurn_of_accepted {w : Word16} {s : State} (hpc : s.pc = .ready) (h : reservedRequest w = false) :
    hostTurn w s = .next (s.accept (opcOf w) (opdOf w) (entryLabel (opcOf w))) := by
  obtain ⟨r, -, hd⟩ := decodeReq_of_admitted h
  simp [hostTurn, hpc, hd, exec_of_ready (decodeReq_eq_ok_iff.mp hd) hpc]

/-- While an operation runs, a request is refused (log entry 10). -/
theorem hostTurn_of_running {s : State} (hpc : s.pc ≠ .ready) (w : Word16) : hostTurn w s = .refused .hostNotReady :=
  if_neg hpc

/-- `SEQ` has no step at `READY` (log entry 6). -/
theorem seqTurn_of_ready {s : State} (hpc : s.pc = .ready) : seqTurn s = .next s := if_pos hpc

/-- `SEQ`'s turn and the operation in its latches are one step. -/
theorem seqTurn_eq_exec {i : Instr} {s : State} (h : encode i = .req (reqWord s.op s.arg)) (hpc : s.pc ≠ .ready) :
    seqTurn s = exec i s := by
  simp [seqTurn, hpc, decodeReq_eq_ok_iff.mpr h]

/-- While an operation runs, `SEQ`'s turn is a step of its micro-program (R126). -/
theorem seqTurn_of_running {s : State} (hadm : reservedRequest (reqWord s.op s.arg) = false) (hpc : s.pc ≠ .ready) :
    seqTurn s = microOf s.op s := by
  obtain ⟨r, -, hd⟩ := decodeReq_of_admitted hadm
  have hi := decodeReq_eq_ok_iff.mp hd
  rw [seqTurn_eq_exec hi hpc, exec_of_running hi hpc]

/-- The latches that hold an operation: its opcode and, where it takes no operand, a zero (R61, R63). -/
theorem reservedRequest_reqWord_eq_false_iff {c d : Byte} : reservedRequest (reqWord c d) = false ↔
    (c = opcInit ∧ d = 0) ∨ (c = opcStart ∨ c = opcRepeatedStart) ∨ c = opcStartWithRetry ∨ (c = opcStop ∧ d = 0) ∨
      c = opcWriteByte ∨ ((c = opcReadByteAck ∨ c = opcReadByteNak) ∧ d = 0) := by
  rw [← exists_row_matches_iff, exists_row_matches_iff_fields, opcOf_reqWord, opdOf_reqWord]
  tauto

/-- Settles O28: at `READY` by whether the word is reserved; the step of the accepted operation is its acceptance. -/
theorem requestAccepted : Obligations.RequestAccepted := by
  unfold Obligations.RequestAccepted
  exact fun w s => ⟨fun hpc hadm => hostTurn_of_accepted hpc hadm, fun hpc hres => hostTurn_of_reserved hpc hres,
    fun hpc => hostTurn_of_running hpc w⟩

end Sys2Proof.Machine
end

section
/-! Everything one step of a micro-program can do, one constructor for each label and branch (R130 to R156), and that
`SEQ`'s turn goes on exactly by one of them. -/

namespace Sys2Proof.Machine

/-- What a poll leaves: the status latched and logged, the micro-PC at `l` (R127). -/
@[simps] def State.polled (s : State) (l : MicroPc) : State :=
  { s with st := s.statusByte, regLog := s.regLog ++ [.r .status s.statusByte], pc := l }

/-- A poll whose test succeeds moves on (R127). -/
theorem pollStep_of_pass {c : Byte → Bool} {s : State} (h : c s.statusByte = true) (ok again : MicroPc) :
    pollStep c ok again s = .next (s.polled ok) := by
  simp [pollStep_eq, h, State.polled]

/-- A poll whose test fails repeats its step (R127). -/
theorem pollStep_of_fail {c : Byte → Bool} {s : State} (h : c s.statusByte = false) (ok again : MicroPc) :
    pollStep c ok again s = .next (s.polled again) := by
  simp [pollStep_eq, h, State.polled]

/-- A write step is the access, then the jump (R126). -/
theorem writeStep_of_next {r : Reg} {v : Byte} {s t : State} (h : seqWrite r v s = .next t) (l : MicroPc) :
    writeStep r v l s = .next (t.goto l) := by
  simp [writeStep, h]

/-- A write step whose access faults is a fault (R162). -/
theorem writeStep_of_fault {r : Reg} {v : Byte} {s : State} {x : Fault} (h : seqWrite r v s = .fault x) (l : MicroPc) :
    writeStep r v l s = .fault x := by
  simp [writeStep, h]

/-- A step of `init` (R130). -/
inductive InitStep (s : State) : State → Prop
  | divisor (hpc : s.pc = .i0) : InitStep s { s with
      baud := Config.baudDiv, regLog := s.regLog ++ [.w .baud Config.baudDiv], pc := .i1 }
  | enable (hpc : s.pc = .i1) : InitStep s { s with
      rien := false, wien := false, enable := true, regLog := s.regLog ++ [.w .ctrl 0x01], pc := .i2 }
  | forceIdle (hpc : s.pc = .i2) : InitStep s { s with
      busState := .idle, phase := .none, regLog := s.regLog ++ [.w .status 0x01], pc := .i3 }
  | answer (hpc : s.pc = .i3) : InitStep s { s with rsp := some 0x0000, pc := .ready }

/-- A step of `start`, `repeatedStart` or one attempt of `startWithRetry` (R135 to R137). -/
inductive StartStep (s : State) : State → Prop
  | flush (hpc : s.pc = .s0) (hen : s.enable = true) : StartStep s { s with
      rif := false, wif := false, arblost := false, buserr := false, phase := .none,
      regLog := s.regLog ++ [.w .cmd 0x08], pc := .s1 }
  | flushDisabled (hpc : s.pc = .s0) (hen : s.enable = false) : StartStep s { s with
      regLog := s.regLog ++ [.w .cmd 0x08], pc := .s1 }
  | address (hpc : s.pc = .s1) (hen : s.enable = true) : StartStep s { s with
      addr := s.arg, rif := false, wif := false, arblost := false, buserr := false, phase := .addr s.arg,
      regLog := s.regLog ++ [.w .addr s.arg], pc := .s2 }
  | addressDisabled (hpc : s.pc = .s1) (hen : s.enable = false) : StartStep s { s with
      addr := s.arg, regLog := s.regLog ++ [.w .addr s.arg], pc := .s2 }
  | polled (hpc : s.pc = .s2) (hif : (s.rif || s.wif) = true) : StartStep s (s.polled .s3)
  | waits (hpc : s.pc = .s2) (hif : (s.rif || s.wif) = false) : StartStep s (s.polled .s2)
  | succeeds (hpc : s.pc = .s3) (hst : (errSet s.st || nakSet s.st) = false) : StartStep s { s with
      rsp := some 0x0000, pc := .ready }
  | fails (hpc : s.pc = .s3) (hst : (errSet s.st || nakSet s.st) = true) (hop : s.op ≠ opcStartWithRetry) :
      StartStep s { s with rsp := some 0x0100, pc := .ready }
  | retries (hpc : s.pc = .s3) (hst : (errSet s.st || nakSet s.st) = true) (hop : s.op = opcStartWithRetry) :
      StartStep s { s with pc := .w4 }

/-- The wait of `startWithRetry` between two attempts (R137). -/
inductive WaitStep (s : State) : State → Prop
  | again (hpc : s.pc = .w4) (hbus : s.busState = .idle) : WaitStep s (s.polled .s0)
  | waits (hpc : s.pc = .w4) (hbus : s.busState ≠ .idle) : WaitStep s (s.polled .w4)

/-- A step of `stop` (R145). -/
inductive StopStep (s : State) : State → Prop
  | stop (hpc : s.pc = .p0) (hen : s.enable = true) (hbus : s.busState = .owner) (hphase : s.phase = .none) :
      StopStep s { s with
        rif := false, wif := false, phase := .stop, regLog := s.regLog ++ [.w .cmd 0x03], pc := .p1 }
  | stopDisabled (hpc : s.pc = .p0) (hen : s.enable = false) : StopStep s { s with
      regLog := s.regLog ++ [.w .cmd 0x03], pc := .p1 }
  | polled (hpc : s.pc = .p1) (hbus : s.busState = .idle) : StopStep s (s.polled .p2)
  | waits (hpc : s.pc = .p1) (hbus : s.busState ≠ .idle) : StopStep s (s.polled .p1)
  | answer (hpc : s.pc = .p2) : StopStep s { s with rsp := some 0x0000, pc := .ready }

/-- A step of `writeByte` (R150). -/
inductive WriteStep (s : State) : State → Prop
  | send (hpc : s.pc = .x0) (hen : s.enable = true) (hbus : s.busState = .owner) (hphase : s.phase = .none)
      (hdir : s.dir = .write) : WriteStep s { s with
        data := s.arg, rif := false, wif := false, phase := .tx s.arg, regLog := s.regLog ++ [.w .data s.arg],
        pc := .x1 }
  | sendDisabled (hpc : s.pc = .x0) (hen : s.enable = false) : WriteStep s { s with
      data := s.arg, regLog := s.regLog ++ [.w .data s.arg], pc := .x1 }
  | polled (hpc : s.pc = .x1) (hif : s.wif = true) : WriteStep s (s.polled .x2)
  | waits (hpc : s.pc = .x1) (hif : s.wif = false) : WriteStep s (s.polled .x1)
  | answer (hpc : s.pc = .x2) : WriteStep s { s with
      rsp := some (if nakSet s.st = true then 0x0200 else 0x0000), pc := .ready }

/-- A step of `readByteAck` or `readByteNak` (R155, R156). -/
inductive ReadStep (s : State) : State → Prop
  | polled (hpc : s.pc = .a0) (hif : s.rif = true) : ReadStep s (s.polled .a1)
  | waits (hpc : s.pc = .a0) (hif : s.rif = false) : ReadStep s (s.polled .a0)
  | capture (hpc : s.pc = .a1) : ReadStep s { s with
      rdata := s.data, regLog := s.regLog ++ [.r .data s.data], pc := .a2 }
  | recvAck (hpc : s.pc = .a2) (hop : s.op = opcReadByteAck) (hen : s.enable = true) (hbus : s.busState = .owner)
      (hphase : s.phase = .none) (hdir : s.dir = .read) (hif : s.rif = true) : ReadStep s { s with
        rif := false, wif := false, phase := .rx, busLog := s.busLog ++ [.ackOut],
        regLog := s.regLog ++ [.w .cmd 0x02], pc := .a3 }
  | recvNak (hpc : s.pc = .a2) (hop : s.op ≠ opcReadByteAck) (hen : s.enable = true) (hbus : s.busState = .owner)
      (hphase : s.phase = .none) (hdir : s.dir = .read) (hif : s.rif = true) : ReadStep s { s with
        rif := false, wif := false, busLog := s.busLog ++ [.nakOut],
        regLog := s.regLog ++ [.w .cmd 0x06], pc := .a3 }
  | recvDisabled (hpc : s.pc = .a2) (hen : s.enable = false) : ReadStep s { s with
      regLog := s.regLog ++ [.w .cmd (readCommand s.op)], pc := .a3 }
  | answer (hpc : s.pc = .a3) : ReadStep s { s with rsp := some (0x00#8 ++ s.rdata), pc := .ready }

/-! ## Each micro-program takes the steps listed for it -/

/-- `STATUS_INIT` forces idle and clears no flag (R69, R84). -/
theorem seqWrite_statusInit (s : State) : seqWrite .status statusInit s = .next { s with
    busState := .idle, phase := .none, regLog := s.regLog ++ [.w .status 0x01] } := by
  simp [seqWrite_status, writeStatus, statusInit, State.logReg]

/-- Step `S3` on an error or a NAK (R135). -/
theorem startDecide_of_fail {s : State} (h : (errSet s.st || nakSet s.st) = true) : startDecide s = startFail s := by
  rcases Bool.or_eq_true_iff.mp h with h | h <;> simp [startDecide, h]

/-- Step `S3` on an ACK without an error (R135). -/
theorem startDecide_of_success {s : State} (h : (errSet s.st || nakSet s.st) = false) :
    startDecide s = .next (s.respond codeOk 0) := by
  obtain ⟨herr, hnak⟩ := Bool.or_eq_false_iff.mp h
  simp [startDecide, herr, hnak, respondStep]

/-- At every label but `W4` a step of `startWithRetry` is one of `start` (R137). -/
theorem retryMicro_of_attempt {s : State} (hpc : s.pc ≠ .w4) : retryMicro s = startMicro s := by
  unfold retryMicro
  split
  · exact absurd ‹_› hpc
  · rfl

theorem InitStep.micro {s t : State} (h : InitStep s t) : initMicro s = .next t := by
  cases h with
  | divisor hpc | enable hpc | answer hpc => simp only [initMicro, hpc]; rfl
  | forceIdle hpc => simp only [initMicro, hpc]; exact writeStep_of_next (seqWrite_statusInit s) _

theorem StartStep.micro {s t : State} (h : StartStep s t) : startMicro s = .next t := by
  obtain ⟨hflush, hflushDis⟩ : (s.enable = true → seqWrite .cmd cmdFlushByte s = _) ∧
    (s.enable = false → seqWrite .cmd cmdFlushByte s = _) := RegisterActions.flushCommand s
  obtain ⟨haddr, haddrDis⟩ := addressWrite s.arg s
  cases h with
  | flush hpc hen => simp only [startMicro, hpc]; exact writeStep_of_next (hflush hen) _
  | flushDisabled hpc hen => simp only [startMicro, hpc]; exact writeStep_of_next (hflushDis hen) _
  | address hpc hen => simp only [startMicro, hpc]; exact writeStep_of_next (haddr hen) _
  | addressDisabled hpc hen => simp only [startMicro, hpc]; exact writeStep_of_next (haddrDis hen) _
  | polled hpc hif => simp only [startMicro, hpc]; exact pollStep_of_pass ((anyIf_statusByte s).trans hif) _ _
  | waits hpc hif => simp only [startMicro, hpc]; exact pollStep_of_fail ((anyIf_statusByte s).trans hif) _ _
  | succeeds hpc hst => simp only [startMicro, hpc]; exact startDecide_of_success hst
  | fails hpc hst hop => simp only [startMicro, hpc]; exact (startDecide_of_fail hst).trans (if_neg hop)
  | retries hpc hst hop => simp only [startMicro, hpc]; exact (startDecide_of_fail hst).trans (if_pos hop)

theorem StopStep.micro {s t : State} (h : StopStep s t) : stopMicro s = .next t := by
  obtain ⟨hdis, hstop, -⟩ := RegisterActions.stopCommand s
  cases h with
  | stop hpc hen hbus hphase => simp only [stopMicro, hpc]; exact writeStep_of_next (hstop hen hbus hphase) _
  | stopDisabled hpc hen => simp only [stopMicro, hpc]; exact writeStep_of_next (hdis hen) _
  | polled hpc hbus => simp only [stopMicro, hpc]; exact pollStep_of_pass (by simp [hbus]) _ _
  | waits hpc hbus => simp only [stopMicro, hpc]; exact pollStep_of_fail (by simp [hbus]) _ _
  | answer hpc => simp only [stopMicro, hpc]; rfl

theorem WriteStep.micro {s t : State} (h : WriteStep s t) : writeMicro s = .next t := by
  obtain ⟨hdis, hsend, -⟩ := dataWrite s.arg s
  cases h with
  | send hpc hen hbus hphase hdir => simp only [writeMicro, hpc]; exact writeStep_of_next (hsend hen hbus hphase hdir) _
  | sendDisabled hpc hen => simp only [writeMicro, hpc]; exact writeStep_of_next (hdis hen) _
  | polled hpc hif => simp only [writeMicro, hpc]; exact pollStep_of_pass ((wifSet_statusByte s).trans hif) _ _
  | waits hpc hif => simp only [writeMicro, hpc]; exact pollStep_of_fail ((wifSet_statusByte s).trans hif) _ _
  | answer hpc =>
    simp only [writeMicro, hpc, writeDecide]
    split <;> rfl

theorem ReadStep.micro {s t : State} (h : ReadStep s t) : readMicro s = .next t := by
  obtain ⟨hackDis, hack, -⟩ := RegisterActions.recvAckCommand s
  obtain ⟨hnakDis, hnak, -⟩ := RegisterActions.recvNakCommand s
  cases h with
  | polled hpc hif => simp only [readMicro, hpc]; exact pollStep_of_pass ((rifSet_statusByte s).trans hif) _ _
  | waits hpc hif => simp only [readMicro, hpc]; exact pollStep_of_fail ((rifSet_statusByte s).trans hif) _ _
  | capture hpc => simp only [readMicro, hpc]; rfl
  | recvAck hpc hop hen hbus hphase hdir hif =>
    simp only [readMicro, hpc, readCommand, if_pos hop]
    exact writeStep_of_next (hack hen hbus hphase hdir hif) _
  | recvNak hpc hop hen hbus hphase hdir hif =>
    simp only [readMicro, hpc, readCommand, if_neg hop]
    exact writeStep_of_next (hnak hen hbus hphase hdir hif) _
  | recvDisabled hpc hen =>
    simp only [readMicro, hpc, readCommand]
    split
    · exact writeStep_of_next (hackDis hen) _
    · exact writeStep_of_next (hnakDis hen) _
  | answer hpc => simp only [readMicro, hpc]; rfl

theorem StartStep.retryMicro {s t : State} (h : StartStep s t) : retryMicro s = .next t := by
  have hpc : s.pc ≠ .w4 := by cases h <;> simp [*]
  exact (retryMicro_of_attempt hpc).trans h.micro

theorem WaitStep.micro {s t : State} (h : WaitStep s t) : retryMicro s = .next t := by
  cases h with
  | again hpc hbus => simp only [retryMicro, hpc]; exact pollStep_of_pass (by simp [hbus]) _ _
  | waits hpc hbus => simp only [retryMicro, hpc]; exact pollStep_of_fail (by simp [hbus]) _ _

/-! ## The three triggers fault outside their condition (R95, R162) -/

theorem stopMicro_of_fault {s : State} (hpc : s.pc = .p0) (hen : s.enable = true)
    (hout : ¬(s.busState = .owner ∧ s.phase = .none)) : stopMicro s = .fault .undefinedSequence := by
  obtain ⟨-, -, hfault⟩ := RegisterActions.stopCommand s
  simp only [stopMicro, hpc]
  exact writeStep_of_fault (hfault hen hout) _

theorem writeMicro_of_fault {s : State} (hpc : s.pc = .x0) (hen : s.enable = true)
    (hout : ¬(s.busState = .owner ∧ s.phase = .none ∧ s.dir = .write)) :
    writeMicro s = .fault .undefinedSequence := by
  obtain ⟨-, -, hfault⟩ := dataWrite s.arg s
  simp only [writeMicro, hpc]
  exact writeStep_of_fault (hfault hen hout) _

theorem readMicro_of_fault {s : State} (hpc : s.pc = .a2) (hen : s.enable = true)
    (hout : ¬(s.busState = .owner ∧ s.phase = .none ∧ s.dir = .read ∧ s.rif = true)) :
    readMicro s = .fault .undefinedSequence := by
  obtain ⟨-, -, hack⟩ := RegisterActions.recvAckCommand s
  obtain ⟨-, -, hnak⟩ := RegisterActions.recvNakCommand s
  simp only [readMicro, hpc, readCommand]
  split
  · exact writeStep_of_fault (hack hen hout) _
  · exact writeStep_of_fault (hnak hen hout) _

/-! ## Each micro-program takes no other step -/

theorem initMicro_eq_next {s t : State} (h : initMicro s = .next t) : InitStep s t := by
  have only : ∀ {u}, InitStep s u → InitStep s t := fun hu => Host.Outcome.next.inj (hu.micro.symm.trans h) ▸ hu
  cases hpc : s.pc with
  | i0 => exact only (.divisor hpc)
  | i1 => exact only (.enable hpc)
  | i2 => exact only (.forceIdle hpc)
  | i3 => exact only (.answer hpc)
  | _ => simp [initMicro, hpc] at h

theorem startMicro_eq_next {s t : State} (h : startMicro s = .next t) : StartStep s t := by
  have only : ∀ {u}, StartStep s u → StartStep s t := fun hu => Host.Outcome.next.inj (hu.micro.symm.trans h) ▸ hu
  cases hpc : s.pc with
  | s0 => cases hen : s.enable with
    | true => exact only (.flush hpc hen)
    | false => exact only (.flushDisabled hpc hen)
  | s1 => cases hen : s.enable with
    | true => exact only (.address hpc hen)
    | false => exact only (.addressDisabled hpc hen)
  | s2 => cases hif : s.rif || s.wif with
    | true => exact only (.polled hpc hif)
    | false => exact only (.waits hpc hif)
  | s3 => cases hst : errSet s.st || nakSet s.st with
    | false => exact only (.succeeds hpc hst)
    | true =>
      by_cases hop : s.op = opcStartWithRetry
      · exact only (.retries hpc hst hop)
      · exact only (.fails hpc hst hop)
  | _ => simp [startMicro, hpc] at h

theorem retryMicro_eq_next {s t : State} (h : retryMicro s = .next t) : StartStep s t ∨ WaitStep s t := by
  have only : ∀ {u}, WaitStep s u → WaitStep s t := fun hu => Host.Outcome.next.inj (hu.micro.symm.trans h) ▸ hu
  by_cases hpc : s.pc = .w4
  · by_cases hbus : s.busState = .idle
    · exact .inr (only (.again hpc hbus))
    · exact .inr (only (.waits hpc hbus))
  · exact .inl (startMicro_eq_next (retryMicro_of_attempt hpc ▸ h))

theorem stopMicro_eq_next {s t : State} (h : stopMicro s = .next t) : StopStep s t := by
  have only : ∀ {u}, StopStep s u → StopStep s t := fun hu => Host.Outcome.next.inj (hu.micro.symm.trans h) ▸ hu
  cases hpc : s.pc with
  | p0 => cases hen : s.enable with
    | false => exact only (.stopDisabled hpc hen)
    | true =>
      by_cases hin : s.busState = .owner ∧ s.phase = .none
      · exact only (.stop hpc hen hin.1 hin.2)
      · simp [stopMicro_of_fault hpc hen hin] at h
  | p1 =>
    by_cases hbus : s.busState = .idle
    · exact only (.polled hpc hbus)
    · exact only (.waits hpc hbus)
  | p2 => exact only (.answer hpc)
  | _ => simp [stopMicro, hpc] at h

theorem writeMicro_eq_next {s t : State} (h : writeMicro s = .next t) : WriteStep s t := by
  have only : ∀ {u}, WriteStep s u → WriteStep s t := fun hu => Host.Outcome.next.inj (hu.micro.symm.trans h) ▸ hu
  cases hpc : s.pc with
  | x0 => cases hen : s.enable with
    | false => exact only (.sendDisabled hpc hen)
    | true =>
      by_cases hin : s.busState = .owner ∧ s.phase = .none ∧ s.dir = .write
      · exact only (.send hpc hen hin.1 hin.2.1 hin.2.2)
      · simp [writeMicro_of_fault hpc hen hin] at h
  | x1 => cases hif : s.wif with
    | true => exact only (.polled hpc hif)
    | false => exact only (.waits hpc hif)
  | x2 => exact only (.answer hpc)
  | _ => simp [writeMicro, hpc] at h

theorem readMicro_eq_next {s t : State} (h : readMicro s = .next t) : ReadStep s t := by
  have only : ∀ {u}, ReadStep s u → ReadStep s t := fun hu => Host.Outcome.next.inj (hu.micro.symm.trans h) ▸ hu
  cases hpc : s.pc with
  | a0 => cases hif : s.rif with
    | true => exact only (.polled hpc hif)
    | false => exact only (.waits hpc hif)
  | a1 => exact only (.capture hpc)
  | a2 => cases hen : s.enable with
    | false => exact only (.recvDisabled hpc hen)
    | true =>
      by_cases hin : s.busState = .owner ∧ s.phase = .none ∧ s.dir = .read ∧ s.rif = true
      · obtain ⟨hbus, hphase, hdir, hif⟩ := hin
        by_cases hop : s.op = opcReadByteAck
        · exact only (.recvAck hpc hop hen hbus hphase hdir hif)
        · exact only (.recvNak hpc hop hen hbus hphase hdir hif)
      · simp [readMicro_of_fault hpc hen hin] at h
  | a3 => exact only (.answer hpc)
  | _ => simp [readMicro, hpc] at h

/-! ## `SEQ`'s turn -/

/-- A step of `SEQ`: one of the micro-program of the operation in its latches (R126). -/
inductive SeqStep (s : State) : State → Prop
  | init {t : State} (hop : s.op = opcInit) (harg : s.arg = 0) (h : InitStep s t) : SeqStep s t
  | start {t : State} (hop : s.op = opcStart ∨ s.op = opcRepeatedStart ∨ s.op = opcStartWithRetry)
      (h : StartStep s t) : SeqStep s t
  | wait {t : State} (hop : s.op = opcStartWithRetry) (h : WaitStep s t) : SeqStep s t
  | stop {t : State} (hop : s.op = opcStop) (harg : s.arg = 0) (h : StopStep s t) : SeqStep s t
  | write {t : State} (hop : s.op = opcWriteByte) (h : WriteStep s t) : SeqStep s t
  | read {t : State} (hop : s.op = opcReadByteAck ∨ s.op = opcReadByteNak) (harg : s.arg = 0) (h : ReadStep s t) :
      SeqStep s t

/-- No operation has a step at `READY` (R126). -/
theorem SeqStep.pc_ne_ready {s t : State} (h : SeqStep s t) : s.pc ≠ .ready := by
  cases h with
  | init _ _ h | start _ h | wait _ h | stop _ _ h | write _ h | read _ _ h => cases h <;> simp [*]

/-- While an operation runs, `SEQ`'s turn is the step of its micro-program. -/
theorem SeqStep.turn {s t : State} (h : SeqStep s t) : seqTurn s = .next t := by
  have hpc := h.pc_ne_ready
  rw [seqTurn_of_running (reservedRequest_reqWord_eq_false_iff.mpr ?_) hpc]
  · cases h with
    | init hop _ h => rw [hop]; exact h.micro
    | start hop h =>
      rcases hop with hop | hop | hop
      · rw [hop]; exact h.micro
      · rw [hop]; exact h.micro
      · rw [hop]; exact h.retryMicro
    | wait hop h => rw [hop]; exact h.micro
    | stop hop _ h => rw [hop]; exact h.micro
    | write hop h => rw [hop]; exact h.micro
    | read hop _ h => rcases hop with hop | hop <;> (rw [hop]; exact h.micro)
  · cases h with
    | init hop harg | stop hop harg | read hop harg => simp [hop, harg]
    | start hop => tauto
    | wait hop | write hop => simp [hop]

/-- While an operation runs, `SEQ`'s turn goes on by a step of its micro-program and no other. -/
theorem seqTurn_eq_next {s t : State} (hpc : s.pc ≠ .ready) (h : seqTurn s = .next t) : SeqStep s t := by
  have hadm : reservedRequest (reqWord s.op s.arg) = false := by
    by_contra hres
    obtain ⟨e, he⟩ := decodeReq_of_reserved (Bool.not_eq_false _ ▸ hres)
    simp [seqTurn, hpc, he] at h
  rw [seqTurn_of_running hadm hpc] at h
  rcases reservedRequest_reqWord_eq_false_iff.mp hadm with
    ⟨hop, harg⟩ | hop | hop | ⟨hop, harg⟩ | hop | ⟨hop, harg⟩
  · exact .init hop harg (initMicro_eq_next (by rwa [hop] at h))
  · exact .start (by tauto) (startMicro_eq_next (by rcases hop with hop | hop <;> rwa [hop] at h))
  · rcases retryMicro_eq_next (by rwa [hop] at h) with h | h
    · exact .start (.inr (.inr hop)) h
    · exact .wait hop h
  · exact .stop hop harg (stopMicro_eq_next (by rwa [hop] at h))
  · exact .write hop (writeMicro_eq_next (by rwa [hop] at h))
  · exact .read hop harg (readMicro_eq_next (by rcases hop with hop | hop <;> rwa [hop] at h))

end Sys2Proof.Machine
end

section
/-! Each operation at each of its labels (R130 to R156), and the step that runs the decoded instruction. -/

namespace Sys2Proof.Machine

/-- While the latches hold an operation, its step is one of its micro-program (R126). -/
theorem operation_of_running {s : State} {c d : Byte} (hpc : s.pc ≠ .ready) (hop : s.op = c) (harg : s.arg = d)
    (e : MicroPc) (f : State → Result) : operation c d e f s = f s := by
  simp [operation, hpc, hop, harg]

section
variable {s t : State}

theorem InitStep.exec (hop : s.op = opcInit) (harg : s.arg = 0) (h : InitStep s t) : exec .init s = .next t :=
  (operation_of_running (SeqStep.init hop harg h).pc_ne_ready hop harg _ _).trans h.micro

theorem StartStep.exec_start (hop : s.op = opcStart) (h : StartStep s t) : exec (.start s.arg) s = .next t :=
  (operation_of_running (SeqStep.start (.inl hop) h).pc_ne_ready hop rfl _ _).trans h.micro

theorem StartStep.exec_repeatedStart (hop : s.op = opcRepeatedStart) (h : StartStep s t) :
    exec (.repeatedStart s.arg) s = .next t :=
  (operation_of_running (SeqStep.start (.inr (.inl hop)) h).pc_ne_ready hop rfl _ _).trans h.micro

theorem StartStep.exec_startWithRetry (hop : s.op = opcStartWithRetry) (h : StartStep s t) :
    exec (.startWithRetry s.arg) s = .next t :=
  (operation_of_running (SeqStep.start (.inr (.inr hop)) h).pc_ne_ready hop rfl _ _).trans h.retryMicro

theorem WaitStep.exec (hop : s.op = opcStartWithRetry) (h : WaitStep s t) :
    exec (.startWithRetry s.arg) s = .next t :=
  (operation_of_running (SeqStep.wait hop h).pc_ne_ready hop rfl _ _).trans h.micro

theorem StopStep.exec (hop : s.op = opcStop) (harg : s.arg = 0) (h : StopStep s t) : exec .stop s = .next t :=
  (operation_of_running (SeqStep.stop hop harg h).pc_ne_ready hop harg _ _).trans h.micro

theorem WriteStep.exec (hop : s.op = opcWriteByte) (h : WriteStep s t) : exec (.writeByte s.arg) s = .next t :=
  (operation_of_running (SeqStep.write hop h).pc_ne_ready hop rfl _ _).trans h.micro

theorem ReadStep.exec_readByteAck (hop : s.op = opcReadByteAck) (harg : s.arg = 0) (h : ReadStep s t) :
    exec .readByteAck s = .next t :=
  (operation_of_running (SeqStep.read (.inl hop) harg h).pc_ne_ready hop harg _ _).trans h.micro

theorem ReadStep.exec_readByteNak (hop : s.op = opcReadByteNak) (harg : s.arg = 0) (h : ReadStep s t) :
    exec .readByteNak s = .next t :=
  (operation_of_running (SeqStep.read (.inr hop) harg h).pc_ne_ready hop harg _ _).trans h.micro

end

/-! ## The tests of a latched status, by its bits -/

theorem errSet_iff {st : Byte} : errSet st = true ↔ st &&& 0x0C ≠ 0 := bne_iff_ne

theorem nakSet_iff {st : Byte} : nakSet st = true ↔ st &&& 0x10 ≠ 0 := bne_iff_ne

/-- The two tests of step `S3` are one mask, `0x1C`. -/
theorem failed_iff {st : Byte} : (errSet st || nakSet st) = true ↔ st &&& 0x1C ≠ 0 := by
  have hmask : (0x1C : Byte) = 0x0C ||| 0x10 := by decide
  rw [Bool.or_eq_true, errSet_iff, nakSet_iff, hmask, BitVec.and_or_distrib_left, ← not_and_or]
  exact not_congr BitVec.or_eq_zero_iff.symm

/-- Settles O30: one step for each label. -/
theorem initSteps : Obligations.InitSteps := by
  unfold Obligations.InitSteps
  exact fun s => ⟨fun hpc => operation_of_ready hpc .., fun hop harg =>
    ⟨fun hpc => InitStep.exec hop harg (.divisor hpc), fun hpc => InitStep.exec hop harg (.enable hpc),
      fun hpc => InitStep.exec hop harg (.forceIdle hpc), fun hpc => InitStep.exec hop harg (.answer hpc)⟩⟩

/-- The poll `S2` with its two outcomes in one state. -/
theorem StartStep.poll {s : State} (hpc : s.pc = .s2) : StartStep s { s with
    st := s.statusByte, regLog := s.regLog ++ [.r .status s.statusByte],
    pc := if s.rif = true ∨ s.wif = true then .s3 else .s2 } := by
  split
  case isTrue h => exact .polled hpc (by simpa using h)
  case isFalse h => exact .waits hpc (by simpa using h)

/-- The decision `S3` of an operation that answers, with its outcomes in one state. -/
theorem StartStep.decide {s : State} (hpc : s.pc = .s3) (hop : s.op ≠ opcStartWithRetry) : StartStep s { s with
    rsp := some (if s.st &&& 0x0C ≠ 0 then 0x0100 else if s.st &&& 0x10 ≠ 0 then 0x0100 else 0x0000),
    pc := .ready } := by
  simp only [← errSet_iff, ← nakSet_iff]
  cases herr : errSet s.st <;> cases hnak : nakSet s.st
  case false.false => exact .succeeds hpc (by simp [herr, hnak])
  all_goals exact .fails hpc (by simp [herr, hnak]) hop

/-- Settles O31: the two operations differ in their opcode alone. -/
theorem startSteps : Obligations.StartSteps := by
  unfold Obligations.StartSteps
  intro a i c s hi
  have hready : s.pc = .ready → exec i s = .next (s.accept c a .s0) := by
    rcases hi with ⟨rfl, rfl⟩ | ⟨rfl, rfl⟩ <;> exact fun hpc => operation_of_ready hpc ..
  refine ⟨hready, fun hop harg => ?_⟩
  subst harg
  have hexec : ∀ {t}, StartStep s t → exec i s = .next t := by
    rcases hi with ⟨rfl, rfl⟩ | ⟨rfl, rfl⟩
    · exact StartStep.exec_start hop
    · exact StartStep.exec_repeatedStart hop
  have hanswers : s.op ≠ opcStartWithRetry := by
    rcases hi with ⟨-, rfl⟩ | ⟨-, rfl⟩ <;> rw [hop] <;> decide
  exact ⟨fun hpc hen => hexec (.flush hpc hen), fun hpc hen => hexec (.flushDisabled hpc hen),
    fun hpc hen => hexec (.address hpc hen), fun hpc hen => hexec (.addressDisabled hpc hen),
    fun hpc => hexec (.poll hpc), fun hpc => hexec (.decide hpc hanswers)⟩

/-- Settles O32: an attempt is a `start`; a failure leads to `W4` and an idle bus back to `S0`. -/
theorem retrySteps : Obligations.RetrySteps := by
  unfold Obligations.RetrySteps
  refine fun a s => ⟨fun hpc => operation_of_ready hpc .., fun hop harg => ?_⟩
  subst harg
  have hexec : ∀ {t}, StartStep s t → exec (.startWithRetry s.arg) s = .next t := StartStep.exec_startWithRetry hop
  refine ⟨fun hpc hen => hexec (.flush hpc hen), fun hpc hen => hexec (.flushDisabled hpc hen),
    fun hpc hen => hexec (.address hpc hen), fun hpc hen => hexec (.addressDisabled hpc hen),
    fun hpc => hexec (.poll hpc), fun hpc hst => hexec (.retries hpc (failed_iff.mpr hst) hop),
    fun hpc hst => hexec (.succeeds hpc (by simpa using mt failed_iff.mp (not_not.mpr hst))), fun hpc => ?wait⟩
  case wait =>
    split
    case isTrue hbus => exact WaitStep.exec hop (.again hpc hbus)
    case isFalse hbus => exact WaitStep.exec hop (.waits hpc hbus)

/-- Settles O33: at `P0` by the condition of `STOP`. -/
theorem stopSteps : Obligations.StopSteps := by
  unfold Obligations.StopSteps
  refine fun s => ⟨fun hpc => operation_of_ready hpc .., fun hop harg => ?_⟩
  refine ⟨fun hpc hen hbus hphase => StopStep.exec hop harg (.stop hpc hen hbus hphase),
    fun hpc hen => StopStep.exec hop harg (.stopDisabled hpc hen), fun hpc hen hout => ?fault, fun hpc => ?poll,
    fun hpc => StopStep.exec hop harg (.answer hpc)⟩
  case fault => exact (operation_of_running (by simp [hpc]) hop harg ..).trans (stopMicro_of_fault hpc hen hout)
  case poll =>
    split
    case isTrue hbus => exact StopStep.exec hop harg (.polled hpc hbus)
    case isFalse hbus => exact StopStep.exec hop harg (.waits hpc hbus)

/-- Settles O34: at `X0` by the condition of a `DATA` write. -/
theorem writeByteSteps : Obligations.WriteByteSteps := by
  unfold Obligations.WriteByteSteps
  refine fun d s => ⟨fun hpc => operation_of_ready hpc .., fun hop harg => ?_⟩
  subst harg
  refine ⟨fun hpc hen hbus hphase hdir => WriteStep.exec hop (.send hpc hen hbus hphase hdir),
    fun hpc hen => WriteStep.exec hop (.sendDisabled hpc hen), fun hpc hen hout => ?fault, fun hpc => ?poll,
    fun hpc => ?answer⟩
  case fault => exact (operation_of_running (by simp [hpc]) hop rfl ..).trans (writeMicro_of_fault hpc hen hout)
  case poll =>
    split
    case isTrue hif => exact WriteStep.exec hop (.polled hpc hif)
    case isFalse hif => exact WriteStep.exec hop (.waits hpc (by simpa using hif))
  case answer =>
    have hanswer := WriteStep.exec hop (.answer hpc)
    simpa only [nakSet_iff, ne_eq, ite_not] using hanswer

/-- Settles O35: the two reads differ in the command of `A2`, which their opcode tells. -/
theorem readSteps : Obligations.ReadSteps := by
  unfold Obligations.ReadSteps
  intro i c v s hi
  have hready : s.pc = .ready → exec i s = .next (s.accept c 0x00 .a0) := by
    rcases hi with ⟨rfl, rfl, -⟩ | ⟨rfl, rfl, -⟩ <;> exact fun hpc => operation_of_ready hpc ..
  refine ⟨hready, fun hop harg => ?_⟩
  have hrunning : s.pc ≠ .ready → exec i s = readMicro s := by
    rcases hi with ⟨rfl, rfl, -⟩ | ⟨rfl, rfl, -⟩ <;> exact fun hpc => operation_of_running hpc hop harg ..
  have hexec : ∀ {t}, s.pc ≠ .ready → ReadStep s t → exec i s = .next t := fun hpc h => (hrunning hpc).trans h.micro
  refine ⟨fun hpc => ?poll, fun hpc => hexec (by simp [hpc]) (.capture hpc), fun hpc hen hbus hphase hdir hif => ?recv,
    fun hpc hen => ?disabled, fun hpc hen hout => (hrunning (by simp [hpc])).trans (readMicro_of_fault hpc hen hout),
    fun hpc => hexec (by simp [hpc]) (.answer hpc)⟩
  case poll =>
    split
    case isTrue hif => exact hexec (by simp [hpc]) (.polled hpc hif)
    case isFalse hif => exact hexec (by simp [hpc]) (.waits hpc (by simpa using hif))
  case recv =>
    rcases hi with ⟨-, rfl, rfl⟩ | ⟨-, rfl, rfl⟩
    · exact hexec (by simp [hpc]) (.recvAck hpc hop hen hbus hphase hdir hif)
    · have hnak : s.op ≠ opcReadByteAck := by rw [hop]; decide
      rw [hexec (by simp [hpc]) (.recvNak hpc hnak hen hbus hphase hdir hif), ← hphase]
      rfl
  case disabled =>
    have hcmd : readCommand s.op = v := by
      rcases hi with ⟨-, rfl, rfl⟩ | ⟨-, rfl, rfl⟩ <;> rw [hop] <;> rfl
    exact hcmd ▸ hexec (by simp [hpc]) (.recvDisabled hpc hen)

/-- A step whose label writes a command is the command, then the jump (R126). -/
theorem step_of_command {s : State} {ms : List Move} {i : Instr} {v : Byte} {l : MicroPc}
    (hmoves : s.moves = .seq :: ms) (hadm : reservedRequest (reqWord s.op s.arg) = false) (hpc : s.pc ≠ .ready)
    (hmicro : microOf s.op { s with moves := ms } = writeStep .cmd v l { s with moves := ms })
    (hexec : exec i = seqWrite .cmd v) :
    step s = andThen (exec i { s with moves := ms }) fun t => .next { t with pc := l } := by
  rw [step_of_moves hmoves, hexec]
  exact (seqTurn_of_running (s := { s with moves := ms }) hadm hpc).trans hmicro

/-- Step `S0` writes `FLUSH`, in each operation of the start family (R135). -/
theorem microOf_s0 {s : State} (hop : s.op = opcStart ∨ s.op = opcRepeatedStart ∨ s.op = opcStartWithRetry)
    (hpc : s.pc = .s0) : microOf s.op s = writeStep .cmd cmdFlushByte .s1 s := by
  rcases hop with h | h | h <;> simp [h, startMicro, retryMicro, hpc]

/-- Step `P0` writes `STOP` (R145). -/
theorem microOf_p0 {s : State} (hop : s.op = opcStop) (hpc : s.pc = .p0) :
    microOf s.op s = writeStep .cmd cmdStopByte .p1 s := by
  simp [hop, stopMicro, hpc]

/-- Step `A2` writes the command its opcode tells (R155). -/
theorem microOf_a2 {s : State} (hop : s.op = opcReadByteAck ∨ s.op = opcReadByteNak) (hpc : s.pc = .a2) :
    microOf s.op s = writeStep .cmd (readCommand s.op) .a3 s := by
  rcases hop with h | h <;> simp [h, readMicro, hpc]

/-- Settles O29: a turn runs what its word or its latches decode to; the step that writes a command is that command's
own, with the jump after it. -/
theorem stepRunsDecoded : Obligations.StepRunsDecoded := by
  unfold Obligations.StepRunsDecoded
  intro s ms i
  refine ⟨fun w hmoves hpc hd => ?host, fun hmoves hpc hd => ?seq, fun hmoves hpc hop hd => ?flush,
    fun hmoves hpc hop harg hd => ?stop, fun hmoves hpc hop harg hd => ?recvAck,
    fun hmoves hpc hop harg hd => ?recvNak⟩
  case host => simp [step_of_moves hmoves, runMove, hostTurn, hpc, hd]
  case seq =>
    rw [step_of_moves hmoves]
    exact seqTurn_eq_exec (s := { s with moves := ms }) (decodeReq_eq_ok_iff.mp hd) hpc
  case flush =>
    cases hd
    exact step_of_command hmoves (reqWord_admitted _ (by tauto)) (by simp [hpc])
      (microOf_s0 (s := { s with moves := ms }) hop hpc) rfl
  case stop =>
    cases hd
    exact step_of_command hmoves (by rw [hop, harg]; decide) (by simp [hpc])
      (microOf_p0 (s := { s with moves := ms }) hop hpc) rfl
  case recvAck =>
    cases hd
    have hcmd : readCommand s.op = cmdRecvAckByte := by rw [hop]; rfl
    exact step_of_command hmoves (by rw [hop, harg]; decide) (by simp [hpc])
      (hcmd ▸ microOf_a2 (s := { s with moves := ms }) (.inl hop) hpc) rfl
  case recvNak =>
    cases hd
    have hcmd : readCommand s.op = cmdRecvNakByte := by rw [hop]; rfl
    exact step_of_command hmoves (by rw [hop, harg]; decide) (by simp [hpc])
      (hcmd ▸ microOf_a2 (s := { s with moves := ms }) (.inr hop) hpc) rfl

end Sys2Proof.Machine
end

section
/-! Everything the engine's turn can do, one constructor for each outcome of a phase (R110 to R116), and what it leaves
alone. -/

namespace Sys2Proof.Machine

/-- The posted phase ends in an arbitration loss or a bus error (R111, R113, R114, R116). -/
def State.phaseFails (s : State) (d : Draws) : Prop :=
  (∃ a, s.phase = .addr a ∧ (s.busState = .idle ∨ s.busState = .owner) ∧ ¬drawsAccept a d) ∨
  (∃ b, s.phase = .tx b ∧ (d.ans = .arbLost ∨ d.ans = .busErr)) ∨
  (s.phase = .rx ∧ (d.rx = .arbLost ∨ d.rx = .busErr))

/-- What the engine's turn leaves of `s`, by the phase that stood there and the answer drawn. -/
inductive EngineEffect (d : Draws) (s : State) : State → Prop
  | waits (h : s.engineEnabled = false) : EngineEffect d s s
  | addressedWrite {a : Byte} {l : List BusEvent} (hphase : s.phase = .addr a) (hen : s.enable = true)
      (hbus : s.busState = .idle ∨ s.busState = .owner) (hans : d.ans = .ack) (hdir : dirBit a = false) :
      EngineEffect d s { s with
        busState := .owner, dir := Dir.ofByte a, rxack := false, wif := true, phase := .none, busLog := s.busLog ++ l }
  | addressedRead {a b : Byte} {l : List BusEvent} (hphase : s.phase = .addr a) (hen : s.enable = true)
      (hbus : s.busState = .idle ∨ s.busState = .owner) (hans : d.ans = .ack) (hdir : dirBit a = true)
      (hrx : d.rx = .byte b) : EngineEffect d s { s with
        busState := .owner, dir := Dir.ofByte a, rxack := false, rif := true, data := b, phase := .none,
        busLog := s.busLog ++ l }
  | refused {a : Byte} {l : List BusEvent} (hphase : s.phase = .addr a) (hen : s.enable = true)
      (hbus : s.busState = .idle ∨ s.busState = .owner) (hans : d.ans = .nak) : EngineEffect d s { s with
        busState := .owner, dir := Dir.ofByte a, rxack := true, wif := true, phase := .stop, busLog := s.busLog ++ l }
  | sent {b : Byte} {r : Bool} {l : List BusEvent} (hphase : s.phase = .tx b) (hen : s.enable = true)
      (hans : (d.ans = .ack ∧ r = false) ∨ (d.ans = .nak ∧ r = true)) : EngineEffect d s { s with
        rxack := r, wif := true, phase := .none, busLog := s.busLog ++ l }
  | received {b : Byte} {l : List BusEvent} (hphase : s.phase = .rx) (hen : s.enable = true) (hrx : d.rx = .byte b) :
      EngineEffect d s { s with data := b, rif := true, phase := .none, busLog := s.busLog ++ l }
  | lost {β : BusState} {δ : Dir} {al be : Bool} {l : List BusEvent} (hen : s.enable = true) (hfails : s.phaseFails d)
      (hbus : β = .idle ∨ β = .busy) (herr : al = true ∨ be = true) : EngineEffect d s { s with
        busState := β, dir := δ, rxack := d.rxack, arblost := al, buserr := be, wif := true, phase := .none,
        busLog := s.busLog ++ l }
  | stopped {l : List BusEvent} (hphase : s.phase = .stop) (hen : s.enable = true) : EngineEffect d s { s with
      busState := .idle, phase := .none, busLog := s.busLog ++ l }

/-- The bus state after a bus error is idle or busy (R116). -/
theorem idle_or_busy (x : IdleOrBusy) :
    (if x = .idle then BusState.idle else .busy) = .idle ∨ (if x = .idle then BusState.idle else .busy) = .busy := by
  cases x <;> decide

/-- An address phase has one of these outcomes (R111). -/
theorem EngineEffect.of_addr {s : State} {a : Byte} (hphase : s.phase = .addr a) (hen : s.enable = true)
    (hbus : s.busState = .idle ∨ s.busState = .owner) (d : Draws) : EngineEffect d s (engineStep d s) := by
  obtain ⟨-, houtcome⟩ := addressPhase a d s hphase
  obtain ⟨hwrite, hread, hreadLost, hreadErr, hnak, hlost, herr⟩ := houtcome hen hbus
  have hfails : d.ans ≠ .ack ∨ (dirBit a = true ∧ ∀ b, d.rx ≠ .byte b) → s.phaseFails d := fun h =>
    .inl ⟨a, hphase, hbus, fun ⟨hans, hrx⟩ => h.elim (absurd hans) fun ⟨hdir, hne⟩ =>
      (hrx hdir).elim fun b hb => hne b hb⟩
  cases hans : d.ans with
  | ack => cases hdir : dirBit a with
    | false => rw [hwrite hans hdir]; exact .addressedWrite hphase hen hbus hans hdir
    | true => cases hrx : d.rx with
      | byte b => rw [hread b hans hdir hrx]; exact .addressedRead hphase hen hbus hans hdir hrx
      | arbLost =>
        rw [hreadLost hans hdir hrx]
        exact .lost hen (hfails (.inr ⟨hdir, by simp [hrx]⟩)) (.inr rfl) (.inl rfl)
      | busErr =>
        rw [hreadErr hans hdir hrx]
        exact .lost hen (hfails (.inr ⟨hdir, by simp [hrx]⟩)) (idle_or_busy _) (.inr rfl)
  | nak => rw [hnak hans]; exact .refused hphase hen hbus hans
  | arbLost => rw [hlost hans]; exact .lost hen (hfails (.inl (by simp [hans]))) (.inr rfl) (.inl rfl)
  | busErr => rw [herr hans]; exact .lost hen (hfails (.inl (by simp [hans]))) (idle_or_busy _) (.inr rfl)

/-- A transmit phase has one of these outcomes (R113). -/
theorem EngineEffect.of_tx {s : State} {b : Byte} (hphase : s.phase = .tx b) (hen : s.enable = true) (d : Draws) :
    EngineEffect d s (engineStep d s) := by
  obtain ⟨-, hack, hnak, hlost, herr⟩ := transmitPhase b d s hen hphase
  have hfails : d.ans = .arbLost ∨ d.ans = .busErr → s.phaseFails d := fun h => .inr (.inl ⟨b, hphase, h⟩)
  cases hans : d.ans with
  | ack => rw [hack hans]; exact .sent hphase hen (.inl ⟨hans, rfl⟩)
  | nak => rw [hnak hans]; exact .sent hphase hen (.inr ⟨hans, rfl⟩)
  | arbLost => rw [hlost hans]; exact .lost hen (hfails (.inl hans)) (.inr rfl) (.inl rfl)
  | busErr => rw [herr hans]; exact .lost hen (hfails (.inr hans)) (idle_or_busy _) (.inr rfl)

/-- A receive phase has one of these outcomes (R114). -/
theorem EngineEffect.of_rx {s : State} (hphase : s.phase = .rx) (hen : s.enable = true) (d : Draws) :
    EngineEffect d s (engineStep d s) := by
  obtain ⟨-, hbyte, hlost, herr⟩ := receivePhase d s hen hphase
  have hfails : d.rx = .arbLost ∨ d.rx = .busErr → s.phaseFails d := fun h => .inr (.inr ⟨hphase, h⟩)
  cases hrx : d.rx with
  | byte b => rw [hbyte b hrx]; exact .received hphase hen hrx
  | arbLost => rw [hlost hrx]; exact .lost hen (hfails (.inl hrx)) (.inr rfl) (.inl rfl)
  | busErr => rw [herr hrx]; exact .lost hen (hfails (.inr hrx)) (idle_or_busy _) (.inr rfl)

/-- The engine's turn has one of these outcomes (R110). -/
theorem engineStep_effect (d : Draws) (s : State) : EngineEffect d s (engineStep d s) := by
  rcases engineStep_cases d s with ⟨hdis, he⟩ | ⟨a, hphase, hen, hbus, -⟩ | ⟨b, hphase, hen, -⟩ | ⟨hphase, hen, -⟩ |
    ⟨hphase, hen, he⟩
  · rw [he]; exact .waits hdis
  · exact .of_addr hphase hen ((BusState.canAddress_iff _).mp hbus) d
  · exact .of_tx hphase hen d
  · exact .of_rx hphase hen d
  · rw [he]; exact .stopped hphase hen

/-- `E-FREE` off a busy bus (log entry 6). -/
theorem envFreeStep_of_not_busy {s : State} (h : s.busState ≠ .busy) : envFreeStep s = s := if_neg h

/-- `E-TAKE` off an idle bus (log entry 6). -/
theorem envTakeStep_of_not_idle {s : State} (h : s.busState ≠ .idle) : envTakeStep s = s := if_neg h

/-- The engine's turn with no enabled step (log entry 6). -/
theorem engineStep_of_disabled {s : State} (h : s.engineEnabled = false) (d : Draws) : engineStep d s = s := by
  simp [engineStep, h]

/-- Settles O25: none of the conditions of R110, R111, R117, R118 holds in the state named. -/
theorem disabledTurnsChangeNothing : Obligations.DisabledTurnsChangeNothing := by
  unfold Obligations.DisabledTurnsChangeNothing
  intro d s
  have hengine : s.engineEnabled = false → runMove (.engine d) s = .next s := fun h =>
    congrArg Host.Outcome.next (engineStep_of_disabled h d)
  refine ⟨fun hdis => hengine (by simp [State.engineEnabled, hdis]),
    fun hphase => hengine (by simp [State.engineEnabled, hphase]), fun a hphase hbus => hengine ?address,
    fun hbus => congrArg Host.Outcome.next (envFreeStep_of_not_busy hbus),
    fun hbus => congrArg Host.Outcome.next (envTakeStep_of_not_idle hbus), fun hpc => seqTurn_of_ready hpc⟩
  case address => rcases hbus with hbus | hbus <;> simp [State.engineEnabled, hphase, hbus, BusState.canAddress]

/-- The parts of a state no turn of `CTL` or `ENV` writes: the sequencer, `CTRL`, `BAUD`, `ADDR`, `reg_log` and the
schedule. -/
structure SameOutsideBus (s t : State) : Prop where
  rien : t.rien = s.rien
  wien : t.wien = s.wien
  enable : t.enable = s.enable
  baud : t.baud = s.baud
  addr : t.addr = s.addr
  pc : t.pc = s.pc
  op : t.op = s.op
  arg : t.arg = s.arg
  st : t.st = s.st
  rdata : t.rdata = s.rdata
  rsp : t.rsp = s.rsp
  regLog : t.regLog = s.regLog
  moves : t.moves = s.moves
  drawCount : t.drawCount = s.drawCount

theorem EngineEffect.sameOutsideBus {d : Draws} {s t : State} (h : EngineEffect d s t) : SameOutsideBus s t := by
  cases h <;> constructor <;> rfl

/-- The engine only adds to `bus_log` (R110). -/
theorem EngineEffect.busLog {d : Draws} {s t : State} (h : EngineEffect d s t) : ∃ l, t.busLog = s.busLog ++ l := by
  cases h with
  | waits => exact ⟨[], by simp⟩
  | addressedWrite | addressedRead | refused | sent | received | lost | stopped => exact ⟨_, rfl⟩

/-- `E-FREE` and `E-TAKE` write `BUSSTATE` and nothing else (R117, R118). -/
theorem env_eq_set_busState {s t : State} (h : t = envFreeStep s ∨ t = envTakeStep s) :
    ∃ b, t = { s with busState := b } := by
  rcases h with rfl | rfl
  · rcases envFreeStep_cases s with ⟨-, he⟩ | ⟨-, he⟩ <;> exact ⟨_, he⟩
  · rcases envTakeStep_cases s with ⟨-, he⟩ | ⟨-, he⟩ <;> exact ⟨_, he⟩

theorem env_sameOutsideBus {s t : State} (h : t = envFreeStep s ∨ t = envTakeStep s) : SameOutsideBus s t := by
  obtain ⟨b, rfl⟩ := env_eq_set_busState h
  constructor <;> rfl

/-- The environment logs no bus event (R110). -/
theorem env_busLog {s t : State} (h : t = envFreeStep s ∨ t = envTakeStep s) : t.busLog = s.busLog := by
  obtain ⟨b, rfl⟩ := env_eq_set_busState h
  rfl

/-- Settles O26: the frame of each turn, and what it adds to `bus_log`. -/
theorem engineFrame : Obligations.EngineFrame := by
  unfold Obligations.EngineFrame
  intro d s t h
  have hframe : SameOutsideBus s t ∧ ∃ l, t.busLog = s.busLog ++ l := by
    rcases h with rfl | h
    · exact ⟨(engineStep_effect d s).sameOutsideBus, (engineStep_effect d s).busLog⟩
    · exact ⟨env_sameOutsideBus h, [], by simp [env_busLog h]⟩
  obtain ⟨f, hbus⟩ := hframe
  exact ⟨f.rien, f.wien, f.enable, f.baud, f.addr, f.pc, f.op, f.arg, f.st, f.rdata, f.rsp, f.regLog, f.moves,
    f.drawCount, hbus, env_busLog⟩

end Sys2Proof.Machine
end

section
/-! Reads of the registers, bit by bit, and what accesses log (R49, R82, R83, R89). -/

namespace Sys2Proof.Machine

/-- The bits of `CTRL` as read (R82). -/
theorem State.ctrlByte_bits (s : State) : s.ctrlByte[7] = s.rien ∧ s.ctrlByte[6] = s.wien ∧
    s.ctrlByte[0] = s.enable ∧ s.ctrlByte &&& 0x3E = 0x00 := by
  rw [State.ctrlByte]
  cases s.rien <;> cases s.wien <;> cases s.enable <;> decide

/-- The bits of `STATUS` as read (R83). -/
theorem State.statusByte_bits (s : State) : s.statusByte[7] = s.rif ∧ s.statusByte[6] = s.wif ∧
    s.statusByte[5] = false ∧ s.statusByte[4] = s.rxack ∧ s.statusByte[3] = s.arblost ∧ s.statusByte[2] = s.buserr ∧
    s.statusByte &&& 0x03 = (if s.busState = .unknown then 0x00 else if s.busState = .idle then 0x01
      else if s.busState = .owner then 0x02 else 0x03) := by
  have key : ∀ a b c d e, let v := composeStatus a b c d e s.busState
      v[7] = a ∧ v[6] = b ∧ v[5] = false ∧ v[4] = c ∧ v[3] = d ∧ v[2] = e ∧
        v &&& 0x03 = (if s.busState = .unknown then 0x00 else if s.busState = .idle then 0x01
          else if s.busState = .owner then 0x02 else 0x03) := by
    cases s.busState <;> decide
  exact key ..

/-- Settles O17: the two composed registers by their bits; a read of a register with no free value changes nothing. -/
theorem registerReads : Obligations.RegisterReads := by
  unfold Obligations.RegisterReads
  refine fun s => ⟨s.ctrlByte_bits, s.statusByte_bits, rfl, fun r haddr hcmd => ?plain, fun r hr => ?free⟩
  case plain => cases r with
    | ctrl | status | baud | data => rfl
    | addr => contradiction
    | cmd => contradiction
  case free => rcases hr with rfl | rfl <;> exact ⟨rfl, rfl⟩

/-- A write of `CMD` that goes on leaves `reg_log` to the access (R65). -/
theorem writeCmd_regLog {v : Byte} {s t : State} (h : writeCmd v s = .next t) : t.regLog = s.regLog := by
  unfold writeCmd at h
  split_ifs at h
  · cases h
    cases hen : s.enable <;> simp [flushCommand, hen]
  · rcases stopCommand_cases s with ⟨-, he⟩ | ⟨-, -, he⟩ | ⟨-, -, he⟩ <;> rw [he] at h <;> cases h <;> rfl
  · rcases recvAckCommand_cases s with ⟨-, he⟩ | ⟨-, -, he⟩ | ⟨-, -, he⟩ <;> rw [he] at h <;> cases h <;> rfl
  · rcases recvNakCommand_cases s with ⟨-, he⟩ | ⟨-, -, he⟩ | ⟨-, -, he⟩ <;> rw [he] at h <;> cases h <;> rfl

/-- A register's write leaves `reg_log` to the access that makes it (R49). -/
theorem writeReg_regLog {r : Reg} {v : Byte} {s t : State} (h : writeReg r v s = .next t) : t.regLog = s.regLog := by
  cases r with
  | ctrl => cases h; unfold writeCtrl; split <;> rfl
  | status => cases h; rfl
  | baud => cases h; rfl
  | addr => cases h; unfold writeAddr; split <;> rfl
  | cmd => exact writeCmd_regLog h
  | data =>
    rcases writeData_cases v s with ⟨-, he⟩ | ⟨-, -, he⟩ | ⟨-, -, he⟩ <;> rw [writeReg, he] at h <;> cases h <;> rfl

/-- Settles O19: the access logs and the register's write does not; no turn of `CTL` or `ENV` writes `reg_log`. -/
theorem accessesLogged : Obligations.AccessesLogged := by
  unfold Obligations.AccessesLogged
  refine ⟨fun r v s t h => ?write, fun r s => ?read, fun d s => ?turns⟩
  case write =>
    obtain ⟨u, hu, rfl⟩ := seqWrite_eq_next.mp h
    simp [writeReg_regLog hu]
  case read => cases r <;> rfl
  case turns =>
    exact ⟨(engineStep_effect d s).sameOutsideBus.regLog, (env_sameOutsideBus (.inl rfl)).regLog,
      (env_sameOutsideBus (.inr rfl)).regLog⟩

/-- Settles O42: the invariant evaluated at the reset state. -/
theorem resetMeetsInvariant : Obligations.ResetMeetsInvariant := by
  unfold Obligations.ResetMeetsInvariant
  decide

end Sys2Proof.Machine
end

section
/-! Everything one turn can do, one constructor for each agent's move, and the rules of the whole machine that follow
from it case by case. -/

namespace Sys2Proof.Machine

/-- What a turn that goes on leaves of `s`. -/
inductive TurnEffect (s : State) : Move → State → Prop
  | accept {w : Word16} (hpc : s.pc = .ready) (hadm : reservedRequest w = false) :
      TurnEffect s (.host w) (s.accept (opcOf w) (opdOf w) (entryLabel (opcOf w)))
  | idle (hpc : s.pc = .ready) : TurnEffect s .seq s
  | seq {t : State} (h : SeqStep s t) : TurnEffect s .seq t
  | engine {d : Draws} {t : State} (h : EngineEffect d s t) : TurnEffect s (.engine d) t
  | envFree : TurnEffect s .envFree (envFreeStep s)
  | envTake : TurnEffect s .envTake (envTakeStep s)
  | reset : TurnEffect s .reset (resetEvent s)

/-- A turn that goes on has one of these effects. -/
theorem runMove_effect {m : Move} {s t : State} (h : runMove m s = .next t) : TurnEffect s m t := by
  cases m with
  | host w =>
    have hpc : s.pc = .ready := by
      by_contra hpc
      cases (hostTurn_of_running hpc w).symm.trans h
    have hadm : reservedRequest w = false := by
      by_contra hres
      cases (hostTurn_of_reserved hpc (Bool.not_eq_false _ ▸ hres)).symm.trans h
    cases (hostTurn_of_accepted hpc hadm).symm.trans h
    exact .accept hpc hadm
  | seq =>
    by_cases hpc : s.pc = .ready
    · cases (seqTurn_of_ready hpc).symm.trans h
      exact .idle hpc
    · exact .seq (seqTurn_eq_next hpc h)
  | engine d => cases h; exact .engine (engineStep_effect d s)
  | envFree => cases h; exact .envFree
  | envTake => cases h; exact .envTake
  | reset => cases h; exact .reset

/-- A step that goes on is the effect of its turn on the state with that turn taken. -/
theorem step_effect {s t : State} (h : step s = .next t) :
    ∃ ms n, TurnEffect { s with moves := ms, drawCount := n } (nextMove s) t :=
  ⟨_, _, takeMove_eq s ▸ runMove_effect h⟩

/-! ## The interrupt output (R24) -/

/-- No step of `SEQ` enables an interrupt (R24). -/
theorem SeqStep.interruptsOff {s t : State} (h : SeqStep s t) (hrien : s.rien = false) (hwien : s.wien = false) :
    t.rien = false ∧ t.wien = false := by
  cases h with
  | init _ _ h | start _ h | wait _ h | stop _ _ h | write _ h | read _ _ h =>
    cases h <;> simp [State.polled, hrien, hwien]

/-- No turn enables an interrupt (R24). -/
theorem TurnEffect.interruptsOff {m : Move} {s t : State} (h : TurnEffect s m t) (hrien : s.rien = false)
    (hwien : s.wien = false) : t.rien = false ∧ t.wien = false := by
  cases h with
  | accept | idle => exact ⟨hrien, hwien⟩
  | seq h => exact h.interruptsOff hrien hwien
  | engine h => exact ⟨h.sameOutsideBus.rien.trans hrien, h.sameOutsideBus.wien.trans hwien⟩
  | envFree =>
    have f := env_sameOutsideBus (s := s) (.inl rfl)
    exact ⟨f.rien.trans hrien, f.wien.trans hwien⟩
  | envTake =>
    have f := env_sameOutsideBus (s := s) (.inr rfl)
    exact ⟨f.rien.trans hrien, f.wien.trans hwien⟩
  | reset => exact ⟨rfl, rfl⟩

/-- The interrupt output (R24). -/
theorem State.irq_iff {s : State} : s.irq = true ↔
    s.enable = true ∧ ((s.rien = true ∧ s.rif = true) ∨ (s.wien = true ∧ s.wif = true)) := by
  simp [State.irq]

/-- Settles O44: the line needs an enabled interrupt, and no turn enables one. -/
theorem interruptLineStaysLow : Obligations.InterruptLineStaysLow := by
  unfold Obligations.InterruptLineStaysLow
  refine ⟨fun s => State.irq_iff, fun s t hrien hwien h => ?_⟩
  obtain ⟨ms, n, he⟩ := step_effect h
  obtain ⟨hr, hw⟩ := he.interruptsOff hrien hwien
  exact ⟨hr, hw, by simp [State.irq, hr, hw]⟩

/-! ## The logs (R23, R126) -/

/-- `t` extends the logs of `s`, `reg_log` by at most one access. -/
def GrowsLogs (s t : State) : Prop :=
  ∃ l k, t.regLog = s.regLog ++ l ∧ l.length ≤ 1 ∧ t.busLog = s.busLog ++ k

/-- Equal logs are extended by nothing. -/
theorem GrowsLogs.of_eq {s t : State} (hreg : t.regLog = s.regLog) (hbus : t.busLog = s.busLog) : GrowsLogs s t :=
  ⟨[], [], by simp [hreg], by simp, by simp [hbus]⟩

/-- One register access and no bus event. -/
theorem GrowsLogs.of_access {s t : State} {e : RegEntry} (hreg : t.regLog = s.regLog ++ [e])
    (hbus : t.busLog = s.busLog) : GrowsLogs s t :=
  ⟨[e], [], hreg, by simp, by simp [hbus]⟩

/-- A step of `SEQ` makes at most one register access (R126). -/
theorem SeqStep.growsLogs {s t : State} (h : SeqStep s t) : GrowsLogs s t := by
  cases h with
  | init _ _ h => cases h with
    | divisor | enable | forceIdle => exact .of_access rfl rfl
    | answer => exact .of_eq rfl rfl
  | start _ h => cases h with
    | flush | flushDisabled | address | addressDisabled | polled | waits => exact .of_access rfl rfl
    | succeeds | fails | retries => exact .of_eq rfl rfl
  | wait _ h => cases h with
    | again | waits => exact .of_access rfl rfl
  | stop _ _ h => cases h with
    | stop | stopDisabled | polled | waits => exact .of_access rfl rfl
    | answer => exact .of_eq rfl rfl
  | write _ h => cases h with
    | send | sendDisabled | polled | waits => exact .of_access rfl rfl
    | answer => exact .of_eq rfl rfl
  | read _ _ h => cases h with
    | polled | waits | capture | recvDisabled => exact .of_access rfl rfl
    | recvAck | recvNak => exact ⟨_, _, rfl, le_rfl, rfl⟩
    | answer => exact .of_eq rfl rfl

/-- A turn makes at most one register access, and no turn takes an entry back (R23, R126). -/
theorem TurnEffect.growsLogs {m : Move} {s t : State} (h : TurnEffect s m t) : GrowsLogs s t := by
  cases h with
  | accept | idle | reset => exact .of_eq rfl rfl
  | seq h => exact h.growsLogs
  | engine h =>
    obtain ⟨l, hl⟩ := h.busLog
    exact ⟨[], l, by simp [h.sameOutsideBus.regLog], by simp, hl⟩
  | envFree => exact .of_eq (env_sameOutsideBus (.inl rfl)).regLog (env_busLog (.inl rfl))
  | envTake => exact .of_eq (env_sameOutsideBus (.inr rfl)).regLog (env_busLog (.inr rfl))

/-- Settles O47: turn by turn. -/
theorem logsOnlyGrow : Obligations.LogsOnlyGrow := by
  unfold Obligations.LogsOnlyGrow
  intro s t h
  obtain ⟨ms, n, he⟩ := step_effect h
  exact he.growsLogs

/-! ## Transfers of control (R129) -/

/-- Every operation starts at an entry label (R125). -/
theorem entryLabel_mem (c : Byte) : entryLabel c ∈ MicroPc.ready.successors := by
  unfold entryLabel
  split_ifs <;> decide

/-- A step of `SEQ` leads to a successor of its label; `W4` is met in `startWithRetry` alone (R129, R137). -/
theorem SeqStep.controlFlow {s t : State} (h : SeqStep s t) :
    t.pc ∈ s.pc.successors ∧ (s.pc = .w4 ∨ t.pc = .w4 → s.op = opcStartWithRetry) := by
  cases h with
  | init _ _ h | start _ h | wait _ h | stop _ _ h | write _ h | read _ _ h =>
    cases h <;> simp [*, State.polled, MicroPc.successors]

/-- Settles O48: one clause for each agent's turn. -/
theorem controlFlow : Obligations.ControlFlow := by
  unfold Obligations.ControlFlow
  intro s t h
  obtain ⟨ms, n, he⟩ := step_effect h
  generalize nextMove s = m at he
  cases he with
  | accept hpc => simpa [entryLabel_mem] using hpc
  | idle hpc => simp [show s.pc = .ready from hpc]
  | seq h => simpa using .inr ⟨h.pc_ne_ready, h.controlFlow⟩
  | engine h => simpa using h.sameOutsideBus.pc
  | envFree => simpa using (env_sameOutsideBus (.inl rfl)).pc
  | envTake => simpa using (env_sameOutsideBus (.inr rfl)).pc
  | reset => simp [resetEvent, State.reset]

end Sys2Proof.Machine
end

section
/-! What one step of each instruction leaves as it was, and what it answers (R64, R90 to R93, R130 to R156). -/

namespace Sys2Proof.Machine

/-! ## The steps of each operation: its acceptance, or a step of its micro-program -/

section
variable {s t : State}

theorem exec_init_eq_next (h : exec .init s = .next t) : t = s.accept opcInit 0 .i0 ∨ InitStep s t := by
  rcases exec_eq_next rfl h with ⟨-, ht⟩ | ⟨-, -, -, h⟩
  · exact .inl ht
  · exact .inr (initMicro_eq_next h)

theorem exec_start_eq_next {a : Byte} (h : exec (.start a) s = .next t) :
    t = s.accept opcStart a .s0 ∨ (s.op = opcStart ∧ StartStep s t) := by
  rcases exec_eq_next rfl h with ⟨-, ht⟩ | ⟨-, hop, -, h⟩
  · rw [opcOf_reqWord, opdOf_reqWord] at ht
    exact .inl ht
  · rw [opcOf_reqWord] at hop h
    exact .inr ⟨hop, startMicro_eq_next h⟩

theorem exec_repeatedStart_eq_next {a : Byte} (h : exec (.repeatedStart a) s = .next t) :
    t = s.accept opcRepeatedStart a .s0 ∨ (s.op = opcRepeatedStart ∧ StartStep s t) := by
  rcases exec_eq_next rfl h with ⟨-, ht⟩ | ⟨-, hop, -, h⟩
  · rw [opcOf_reqWord, opdOf_reqWord] at ht
    exact .inl ht
  · rw [opcOf_reqWord] at hop h
    exact .inr ⟨hop, startMicro_eq_next h⟩

theorem exec_startWithRetry_eq_next {a : Byte} (h : exec (.startWithRetry a) s = .next t) :
    t = s.accept opcStartWithRetry a .s0 ∨ (s.op = opcStartWithRetry ∧ (StartStep s t ∨ WaitStep s t)) := by
  rcases exec_eq_next rfl h with ⟨-, ht⟩ | ⟨-, hop, -, h⟩
  · rw [opcOf_reqWord, opdOf_reqWord] at ht
    exact .inl ht
  · rw [opcOf_reqWord] at hop h
    exact .inr ⟨hop, retryMicro_eq_next h⟩

theorem exec_stop_eq_next (h : exec .stop s = .next t) : t = s.accept opcStop 0 .p0 ∨ StopStep s t := by
  rcases exec_eq_next rfl h with ⟨-, ht⟩ | ⟨-, -, -, h⟩
  · exact .inl ht
  · exact .inr (stopMicro_eq_next h)

theorem exec_writeByte_eq_next {d : Byte} (h : exec (.writeByte d) s = .next t) :
    t = s.accept opcWriteByte d .x0 ∨ WriteStep s t := by
  rcases exec_eq_next rfl h with ⟨-, ht⟩ | ⟨-, -, -, h⟩
  · rw [opcOf_reqWord, opdOf_reqWord] at ht
    exact .inl ht
  · rw [opcOf_reqWord] at h
    exact .inr (writeMicro_eq_next h)

theorem exec_read_eq_next {i : Instr} (hi : i = .readByteAck ∨ i = .readByteNak) (h : exec i s = .next t) :
    (∃ c, t = s.accept c 0 .a0) ∨ ReadStep s t := by
  rcases hi with rfl | rfl <;> rcases exec_eq_next rfl h with ⟨-, ht⟩ | ⟨-, -, -, h⟩
  case inl.inl | inr.inl => exact .inl ⟨_, ht⟩
  case inl.inr | inr.inr => exact .inr (readMicro_eq_next h)

end

/-! ## Frames -/

/-- Settles O57: neither the acceptance nor a step of `init` writes one of these. -/
theorem frameInit : Obligations.FrameInit := by
  unfold Obligations.FrameInit
  intro s t h
  rcases exec_init_eq_next h with rfl | h
  · simp
  · cases h <;> simp

/-- Settles O58: neither the acceptance, nor a step of an attempt, nor the wait writes one of these. -/
theorem frameStartFamily : Obligations.FrameStartFamily := by
  unfold Obligations.FrameStartFamily
  intro i a s t hi h
  have hstep : (∃ c, t = s.accept c a .s0) ∨ StartStep s t ∨ WaitStep s t := by
    rcases hi with rfl | rfl | rfl
    · exact (exec_start_eq_next h).imp (⟨_, ·⟩) fun h => .inl h.2
    · exact (exec_repeatedStart_eq_next h).imp (⟨_, ·⟩) fun h => .inl h.2
    · exact (exec_startWithRetry_eq_next h).imp (⟨_, ·⟩) And.right
  rcases hstep with ⟨c, rfl⟩ | h | h
  · simp
  · cases h <;> simp [State.polled]
  · cases h <;> simp [State.polled]

/-- Settles O59: `DATA` is written at `X0` alone, `SEQ.rdata` and `bus_log` at `A1` and `A2` alone. -/
theorem frameDataPhase : Obligations.FrameDataPhase := by
  unfold Obligations.FrameDataPhase
  intro i d s t hi h
  rcases hi with rfl | rfl | hread
  · rcases exec_stop_eq_next h with rfl | h
    · simp
    · cases h <;> simp [State.polled]
  · rcases exec_writeByte_eq_next h with rfl | h
    · simp
    · cases h <;> simp [State.polled]
  · have hlast : ¬(i ≠ .readByteAck ∧ i ≠ .readByteNak) := by tauto
    rcases exec_read_eq_next hread h with ⟨c, rfl⟩ | h
    · simp
    · cases h <;> simp [State.polled] <;> tauto

/-- The command of a `CMD8` instruction that goes on: nothing while disabled, else what R90 to R93 say; then the access
is logged. -/
theorem exec_command_eq_next {i : Instr} {s t : State}
    (hi : i = .cmdFlush ∨ i = .cmdStop ∨ i = .cmdRecvAck ∨ i = .cmdRecvNak) (h : exec i s = .next t) :
    ∃ u e, t = u.logReg e ∧ (u = s ∨ (i = .cmdFlush ∧ u = s.clearIf.clearErr.post .none) ∨
      (i = .cmdStop ∧ u = s.clearIf.post .stop) ∨ (i = .cmdRecvAck ∧ u = (s.clearIf.emit .ackOut).post .rx) ∨
      (i = .cmdRecvNak ∧ u = s.clearIf.emit .nakOut)) := by
  have hwrite : ∀ {v}, seqWrite .cmd v s = .next t → ∃ u, writeCmd v s = .next u ∧ t = u.logReg (.w .cmd v) :=
    seqWrite_eq_next.mp
  rcases hi with rfl | rfl | rfl | rfl
  · refine ⟨flushCommand s, .w .cmd cmdFlushByte, (Host.Outcome.next.inj ((exec_cmdFlush s).symm.trans h)).symm, ?_⟩
    cases hen : s.enable with
    | true => simp [flushCommand_of_enabled hen]
    | false => simp [flushCommand_of_disabled hen]
  all_goals
    obtain ⟨u, hu, rfl⟩ := hwrite h
    refine ⟨u, _, rfl, ?_⟩
  · rcases stopCommand_cases s with ⟨-, he⟩ | ⟨-, -, he⟩ | ⟨-, -, he⟩ <;> cases he.symm.trans hu <;> simp
  · rcases recvAckCommand_cases s with ⟨-, he⟩ | ⟨-, -, he⟩ | ⟨-, -, he⟩ <;> cases he.symm.trans hu <;> simp
  · rcases recvNakCommand_cases s with ⟨-, he⟩ | ⟨-, -, he⟩ | ⟨-, -, he⟩ <;> cases he.symm.trans hu <;> simp

/-- Settles O60: the four commands' effects write no other field. -/
theorem frameCommands : Obligations.FrameCommands := by
  unfold Obligations.FrameCommands
  intro i s t hi h
  obtain ⟨u, e, rfl, rfl | ⟨rfl, rfl⟩ | ⟨rfl, rfl⟩ | ⟨rfl, rfl⟩ | ⟨rfl, rfl⟩⟩ := exec_command_eq_next hi h <;> simp

/-! ## Responses (R64) -/

/-- A step leaves the response slot, or fills it with a response of `i`. -/
def Responds (i : Instr) (s t : State) : Prop :=
  ∀ w, t.rsp = some w → s.rsp = some w ∨ allowedResponse i w = true

section
variable {i : Instr} {s t : State}

theorem Responds.of_eq (h : t.rsp = s.rsp) : Responds i s t := fun _ hw => .inl (h ▸ hw)

theorem Responds.of_none (h : t.rsp = none) : Responds i s t := fun _ hw => by simp [h] at hw

theorem Responds.of_answer {v : Word16} (h : t.rsp = some v) (hv : allowedResponse i v = true) : Responds i s t :=
  fun _ hw => .inr (Option.some.inj (h.symm.trans hw) ▸ hv)

theorem InitStep.responds (h : InitStep s t) : Responds .init s t := by
  cases h with
  | divisor | enable | forceIdle => exact .of_eq rfl
  | answer => exact .of_answer rfl rfl

/-- An attempt answers `OK` or `NOT_ACCESSIBLE`, the second never for `startWithRetry` (R135, R137). -/
theorem StartStep.responds (h : StartStep s t) (hok : allowedResponse i 0x0000 = true)
    (hfail : s.op ≠ opcStartWithRetry → allowedResponse i 0x0100 = true) : Responds i s t := by
  cases h with
  | flush | flushDisabled | address | addressDisabled | polled | waits | retries => exact .of_eq rfl
  | succeeds => exact .of_answer rfl hok
  | fails _ _ hop => exact .of_answer rfl (hfail hop)

theorem StopStep.responds (h : StopStep s t) : Responds .stop s t := by
  cases h with
  | stop | stopDisabled | polled | waits => exact .of_eq rfl
  | answer => exact .of_answer rfl rfl

theorem WriteStep.responds (h : WriteStep s t) (d : Byte) : Responds (.writeByte d) s t := by
  cases h with
  | send | sendDisabled | polled | waits => exact .of_eq rfl
  | answer => exact .of_answer rfl (by cases nakSet s.st <;> rfl)

/-- A read answers with the code `OK` and the byte captured (R155). -/
theorem ReadStep.responds (h : ReadStep s t) (hok : ∀ b : Byte, allowedResponse i (0x00#8 ++ b) = true) :
    Responds i s t := by
  cases h with
  | polled | waits | capture | recvAck | recvNak | recvDisabled => exact .of_eq rfl
  | answer => exact .of_answer rfl (hok s.rdata)

end

/-- Settles O49: only the last step of an operation answers, and a command never does. -/
theorem responseWords : Obligations.ResponseWords := by
  unfold Obligations.ResponseWords
  intro i s t h
  change Responds i s t
  have hok : ∀ b : Byte, (rspCode (0x00#8 ++ b) == 0x00) = true := fun b => beq_iff_eq.mpr (rspCode_rspWord 0x00 b)
  cases i with
  | init => rcases exec_init_eq_next h with rfl | h; exacts [.of_none rfl, h.responds]
  | start a => rcases exec_start_eq_next h with rfl | ⟨-, h⟩; exacts [.of_none rfl, h.responds rfl fun _ => rfl]
  | repeatedStart a =>
    rcases exec_repeatedStart_eq_next h with rfl | ⟨-, h⟩; exacts [.of_none rfl, h.responds rfl fun _ => rfl]
  | startWithRetry a =>
    rcases exec_startWithRetry_eq_next h with rfl | ⟨hop, h | h⟩
    · exact .of_none rfl
    · exact h.responds rfl (absurd hop)
    · cases h <;> exact .of_eq rfl
  | stop => rcases exec_stop_eq_next h with rfl | h; exacts [.of_none rfl, h.responds]
  | writeByte d => rcases exec_writeByte_eq_next h with rfl | h; exacts [.of_none rfl, h.responds d]
  | readByteAck => rcases exec_read_eq_next (.inl rfl) h with ⟨c, rfl⟩ | h; exacts [.of_none rfl, h.responds hok]
  | readByteNak => rcases exec_read_eq_next (.inr rfl) h with ⟨c, rfl⟩ | h; exacts [.of_none rfl, h.responds hok]
  | cmdFlush | cmdStop | cmdRecvAck | cmdRecvNak =>
    obtain ⟨u, e, rfl, hu⟩ := exec_command_eq_next (by simp) h
    rcases hu with rfl | ⟨-, rfl⟩ | ⟨-, rfl⟩ | ⟨-, rfl⟩ | ⟨-, rfl⟩ <;> exact .of_eq rfl

end Sys2Proof.Machine
end

section
/-! The invariant: what it says of the controller and of the sequencer as propositions, and that every turn keeps both. -/

namespace Sys2Proof.Machine

/-- Nothing is set in `STATUS` exactly when it reads zero (R83). -/
theorem State.statusByte_eq_zero_iff {s : State} : s.statusByte = 0 ↔ s.rif = false ∧ s.wif = false ∧
    s.rxack = false ∧ s.arblost = false ∧ s.buserr = false ∧ s.busState = .unknown := by
  have key : ∀ a b c d e, composeStatus a b c d e s.busState = 0 ↔
      a = false ∧ b = false ∧ c = false ∧ d = false ∧ e = false ∧ s.busState = .unknown := by
    cases s.busState <;> decide
  exact key ..

/-- What the invariant says of the controller: the posted phase, the flags and the bus state (R24, R81, R111 to R116,
R164). -/
structure CtlOk (s : State) : Prop where
  interrupts : s.rien = false ∧ s.wien = false
  enabled : s.phase ≠ .none → s.enable = true
  addressing : ∀ a, s.phase = .addr a → s.rif = false ∧ s.wif = false ∧ s.arblost = false ∧ s.buserr = false
  sending : ∀ b, s.phase = .tx b → s.busState = .owner ∧ s.dir = .write ∧ s.rif = false ∧ s.wif = false
  receiving : s.phase = .rx → s.busState = .owner ∧ s.dir = .read ∧ s.rif = false ∧ s.wif = false
  stopping : s.phase = .stop → s.busState = .owner ∧ s.rif = false
  oneFlag : s.rif = true → s.wif = false
  received : s.rif = true → s.dir = .read
  noError : s.busState = .owner → s.arblost = false ∧ s.buserr = false
  disabled : s.enable = false → s.rif = false ∧ s.wif = false ∧ s.rxack = false ∧ s.arblost = false ∧
    s.buserr = false ∧ s.busState = .unknown

/-- The invariant's check of the flags, as propositions. -/
theorem flagsOk_iff {s : State} : s.flagsOk = true ↔ (s.rif = true → s.wif = false) ∧ (s.rif = true → s.dir = .read) ∧
    (s.busState = .owner → s.arblost = false ∧ s.buserr = false) ∧ (s.enable = false → s.rif = false ∧ s.wif = false ∧
      s.rxack = false ∧ s.arblost = false ∧ s.buserr = false ∧ s.busState = .unknown) := by
  rw [← State.statusByte_eq_zero_iff]
  simp only [State.flagsOk, Bool.and_eq_true, Bool.or_eq_true, beq_iff_eq]
  cases s.rif <;> cases s.enable <;> simp [imp_iff_not_or, and_assoc]

/-- The invariant's check of the posted phase, as propositions. -/
theorem phaseOk_iff {s : State} : s.phaseOk = true ↔ (s.phase ≠ .none → s.enable = true) ∧
    (∀ a, s.phase = .addr a → s.rif = false ∧ s.wif = false ∧ s.arblost = false ∧ s.buserr = false) ∧
    (∀ b, s.phase = .tx b → s.busState = .owner ∧ s.dir = .write ∧ s.rif = false ∧ s.wif = false) ∧
    (s.phase = .rx → s.busState = .owner ∧ s.dir = .read ∧ s.rif = false ∧ s.wif = false) ∧
    (s.phase = .stop → s.busState = .owner ∧ s.rif = false) := by
  unfold State.phaseOk
  cases s.phase <;> simp [and_assoc]

/-- The invariant's three checks of the controller, as propositions. -/
theorem ctlOk_iff {s : State} : CtlOk s ↔ s.interruptsOff = true ∧ s.phaseOk = true ∧ s.flagsOk = true := by
  have hint : s.interruptsOff = true ↔ s.rien = false ∧ s.wien = false := by simp [State.interruptsOff]
  rw [hint, phaseOk_iff, flagsOk_iff]
  constructor
  · intro h
    exact ⟨h.interrupts, ⟨h.enabled, h.addressing, h.sending, h.receiving, h.stopping⟩, h.oneFlag, h.received,
      h.noError, h.disabled⟩
  · rintro ⟨hint, ⟨hen, haddr, htx, hrx, hstop⟩, hone, hrecv, herr, hdis⟩
    exact ⟨hint, hen, haddr, htx, hrx, hstop, hone, hrecv, herr, hdis⟩

/-- The invariant: the controller, the label, and no response while an operation runs. -/
theorem State.inv_iff {s : State} :
    s.Inv = true ↔ CtlOk s ∧ s.labelOk = true ∧ (s.pc = .ready ∨ s.rsp = none) := by
  rw [ctlOk_iff]
  simp [State.Inv, State.responseOk, and_assoc]

section
variable {s : State}

theorem State.quiet_iff : s.quiet = true ↔ s.phase = .none ∨ s.phase = .stop := by
  unfold State.quiet
  cases s.phase <;> simp

/-- A disabled controller has no phase posted (R81). -/
theorem CtlOk.phase_of_disabled (h : CtlOk s) (hen : s.enable = false) : s.phase = .none :=
  by_contra fun hphase => by simp [h.enabled hphase] at hen

/-- A set flag means a phase performed: none is posted but the stop after a NAKed address (R111). -/
theorem CtlOk.quiet_of_flag (h : CtlOk s) (hif : (s.rif || s.wif) = true) : s.quiet = true := by
  cases hphase : s.phase with
  | none | stop => simp [State.quiet, hphase]
  | addr a => simp [h.addressing a hphase] at hif
  | tx b => simp [h.sending b hphase] at hif
  | rx => simp [h.receiving hphase] at hif

/-- While a received byte waits no phase is posted (R155). -/
theorem CtlOk.phase_of_rif (h : CtlOk s) (hif : s.rif = true) : s.phase = .none := by
  refine (State.quiet_iff.mp (h.quiet_of_flag (by simp [hif]))).resolve_right fun hstop => ?_
  simp [h.stopping hstop] at hif

/-- A received byte waits in an enabled controller alone (R81). -/
theorem CtlOk.enable_of_rif (h : CtlOk s) (hif : s.rif = true) : s.enable = true := by
  by_contra hdis
  simp [h.disabled (by simpa using hdis)] at hif

end

/-! ## The latched status (R127) -/

/-- The flags of a status byte, apart from `BUSSTATE`. -/
theorem State.statusByte_and_maskFlags (s : State) : s.statusByte &&& maskFlags =
    composeStatus s.rif s.wif s.rxack s.arblost s.buserr .unknown := by
  have key : ∀ a b c d e, composeStatus a b c d e s.busState &&& maskFlags = composeStatus a b c d e .unknown := by
    cases s.busState <;> decide
  exact key ..

/-- Whether the latched status is current does not depend on `BUSSTATE`. -/
theorem State.latchCurrent_congr {s t : State} (hrif : t.rif = s.rif) (hwif : t.wif = s.wif)
    (hrxack : t.rxack = s.rxack) (harb : t.arblost = s.arblost) (herr : t.buserr = s.buserr) (hst : t.st = s.st) :
    t.latchCurrent = s.latchCurrent := by
  simp only [State.latchCurrent, State.statusByte_and_maskFlags, hrif, hwif, hrxack, harb, herr, hst]

/-- A poll latches the status as it is (R127). -/
@[simp] theorem State.latchCurrent_polled (s : State) (l : MicroPc) : (s.polled l).latchCurrent = true :=
  beq_self_eq_true _

/-! ## Steps of `SEQ` -/

theorem InitStep.ctlOk {s t : State} (h : InitStep s t) (hi : CtlOk s) (hl : s.labelOk = true) : CtlOk t := by
  cases h with
  | divisor | answer => exact { hi with }
  | enable => exact { hi with interrupts := ⟨rfl, rfl⟩, enabled := fun _ => rfl, disabled := nofun }
  | forceIdle hpc =>
    have hen : s.enable = true := by simp_all [State.labelOk]
    exact { hi with
      enabled := fun _ => hen, addressing := nofun, sending := nofun, receiving := nofun, stopping := nofun,
      noError := nofun, disabled := fun hdis => absurd (hen.symm.trans hdis) (by decide) }

theorem StartStep.ctlOk {s t : State} (h : StartStep s t) (hi : CtlOk s) : CtlOk t := by
  cases h with
  | flush _ hen | address _ hen => constructor <;> simp [hi.interrupts, hen]
  | flushDisabled | addressDisabled | polled | waits | succeeds | fails | retries => exact { hi with }

theorem WaitStep.ctlOk {s t : State} (h : WaitStep s t) (hi : CtlOk s) : CtlOk t := by
  cases h with
  | again | waits => exact { hi with }

theorem StopStep.ctlOk {s t : State} (h : StopStep s t) (hi : CtlOk s) : CtlOk t := by
  cases h with
  | stop _ hen hbus => constructor <;> simp [hi.interrupts, hen, hbus, hi.noError hbus]
  | stopDisabled | polled | waits | answer => exact { hi with }

theorem WriteStep.ctlOk {s t : State} (h : WriteStep s t) (hi : CtlOk s) : CtlOk t := by
  cases h with
  | send _ hen hbus _ hdir => constructor <;> simp [hi.interrupts, hen, hbus, hdir, hi.noError hbus]
  | sendDisabled | polled | waits | answer => exact { hi with }

theorem ReadStep.ctlOk {s t : State} (h : ReadStep s t) (hi : CtlOk s) : CtlOk t := by
  cases h with
  | recvAck _ _ hen hbus _ hdir => constructor <;> simp [hi.interrupts, hen, hbus, hdir, hi.noError hbus]
  | recvNak _ _ hen hbus hphase hdir => constructor <;> simp [hi.interrupts, hen, hbus, hphase, hi.noError hbus]
  | polled | waits | capture | recvDisabled | answer => exact { hi with }

/-- A step of `SEQ` keeps what the invariant says of the controller. -/
theorem SeqStep.ctlOk {s t : State} (h : SeqStep s t) (hi : CtlOk s) (hl : s.labelOk = true) : CtlOk t := by
  cases h with
  | init _ _ h => exact h.ctlOk hi hl
  | start _ h | wait _ h | stop _ _ h | write _ h | read _ _ h => exact h.ctlOk hi

/-- A step of `SEQ` leads to a label of the operation in the latches, with what that label requires. -/
theorem SeqStep.labelOk {s t : State} (h : SeqStep s t) (hi : CtlOk s) (hl : s.labelOk = true) : t.labelOk = true := by
  cases h with
  | init hop harg h => cases h <;> simp_all [State.labelOk]
  | start hop h => cases h with
    | flush | address | waits | succeeds | fails | retries => simp_all [State.labelOk, State.quiet_iff, or_assoc]
    | flushDisabled _ hen | addressDisabled _ hen =>
      simp [State.labelOk, State.quiet_iff, or_assoc, hop, hi.phase_of_disabled hen]
    | polled _ hif =>
      have hquiet := State.quiet_iff.mp (hi.quiet_of_flag hif)
      simp_all [State.labelOk, State.quiet_iff, or_assoc]
  | wait hop h => cases h <;> simp_all [State.labelOk, State.quiet_iff]
  | stop hop harg h => cases h with
    | stop | waits | answer => simp_all [State.labelOk, State.quiet_iff]
    | stopDisabled _ hen => simp [State.labelOk, State.quiet_iff, hop, harg, hi.phase_of_disabled hen]
    | polled hpc hbus =>
      have hnostop : s.phase ≠ .stop := fun hstop => by simp [hi.stopping hstop] at hbus
      simp_all [State.labelOk, State.quiet_iff]
  | write hop h => cases h with
    | send | waits | answer => simp_all [State.labelOk]
    | sendDisabled _ hen => simp [State.labelOk, hop, hi.phase_of_disabled hen]
    | polled hpc hif =>
      have hnotx : ∀ b, s.phase ≠ .tx b := fun b htx => by simp [hi.sending b htx] at hif
      simp_all [State.labelOk]
  | read hop harg h => cases h with
    | waits | capture | recvAck | recvNak | recvDisabled | answer => simp_all [State.labelOk]
    | polled hpc hif => simp [State.labelOk, hop, harg, hif, hi.phase_of_rif hif, hi.enable_of_rif hif]

/-- A step of `SEQ` leaves the response slot empty until it answers (R125, R128). -/
theorem SeqStep.responseOk {s t : State} (h : SeqStep s t) (hr : s.rsp = none) : t.pc = .ready ∨ t.rsp = none := by
  cases h with
  | init _ _ h | start _ h | wait _ h | stop _ _ h | write _ h | read _ _ h => cases h <;> simp [hr]

/-! ## Turns of the engine and the environment -/

theorem EngineEffect.ctlOk {d : Draws} {s t : State} (h : EngineEffect d s t) (hi : CtlOk s) : CtlOk t := by
  cases h with
  | waits => exact hi
  | addressedWrite hphase hen =>
    obtain ⟨hrif, hwif, harb, herr⟩ := hi.addressing _ hphase
    constructor <;> simp [hi.interrupts, hen, hrif, harb, herr]
  | addressedRead hphase hen _ _ hdir =>
    obtain ⟨hrif, hwif, harb, herr⟩ := hi.addressing _ hphase
    constructor <;> simp [hi.interrupts, hen, hwif, harb, herr, Dir.ofByte, hdir]
  | refused hphase hen =>
    obtain ⟨hrif, hwif, harb, herr⟩ := hi.addressing _ hphase
    constructor <;> simp [hi.interrupts, hen, hrif, harb, herr]
  | sent hphase hen =>
    obtain ⟨hbus, hdir, hrif, hwif⟩ := hi.sending _ hphase
    constructor <;> simp [hi.interrupts, hen, hrif, hbus, hi.noError hbus]
  | received hphase hen =>
    obtain ⟨hbus, hdir, hrif, hwif⟩ := hi.receiving hphase
    constructor <;> simp [hi.interrupts, hen, hwif, hdir, hbus, hi.noError hbus]
  | lost hen hfails hbus =>
    have hrif : s.rif = false := by
      rcases hfails with ⟨a, hphase, -⟩ | ⟨b, hphase, -⟩ | ⟨hphase, -⟩
      exacts [(hi.addressing a hphase).1, (hi.sending b hphase).2.2.1, (hi.receiving hphase).2.2.1]
    constructor <;> rcases hbus with rfl | rfl <;> simp [hi.interrupts, hen, hrif]
  | stopped hphase hen =>
    obtain ⟨hbus, hrif⟩ := hi.stopping hphase
    constructor <;> simp [hi.interrupts, hen, hrif]

/-- With no phase posted the engine does nothing (R110). -/
theorem EngineEffect.eq_of_phase_none {d : Draws} {s t : State} (h : EngineEffect d s t) (hphase : s.phase = .none) :
    t = s := by
  cases h with
  | waits => rfl
  | lost _ hfails => rcases hfails with ⟨a, h, -⟩ | ⟨b, h, -⟩ | ⟨h, -⟩ <;> cases hphase.symm.trans h
  | addressedWrite h | addressedRead h | refused h | sent h | received h | stopped h => cases hphase.symm.trans h

/-- With a stop posted at most, the engine performs it at most: no flag changes (R115). -/
theorem EngineEffect.of_quiet {d : Draws} {s t : State} (h : EngineEffect d s t) (hq : s.quiet = true) :
    t = s ∨ (s.phase = .stop ∧ s.enable = true ∧ ∃ l, t = { s with
      busState := .idle, phase := .none, busLog := s.busLog ++ l }) := by
  rcases State.quiet_iff.mp hq with hphase | hphase
  · exact .inl (h.eq_of_phase_none hphase)
  · cases h with
    | waits => exact .inl rfl
    | stopped _ hen => exact .inr ⟨hphase, hen, _, rfl⟩
    | lost _ hfails => rcases hfails with ⟨a, h, -⟩ | ⟨b, h, -⟩ | ⟨h, -⟩ <;> cases hphase.symm.trans h
    | addressedWrite h | addressedRead h | refused h | sent h | received h => cases hphase.symm.trans h

/-- A phase that the engine performs leaves none posted but the stop after a NAKed address (R111). -/
theorem EngineEffect.eq_or_quiet {d : Draws} {s t : State} (h : EngineEffect d s t) : t = s ∨ t.quiet = true := by
  cases h with
  | waits => exact .inl rfl
  | addressedWrite | addressedRead | refused | sent | received | lost | stopped => exact .inr rfl

/-- A transmit phase leaves no phase posted (R113). -/
theorem EngineEffect.phase_of_tx {d : Draws} {s t : State} {b : Byte} (h : EngineEffect d s t)
    (hphase : s.phase = .tx b) : t = s ∨ t.phase = .none := by
  cases h with
  | waits => exact .inl rfl
  | sent | lost => exact .inr rfl
  | addressedWrite h | addressedRead h | refused h | received h | stopped h => cases hphase.symm.trans h

/-- With a stop posted at most, the latched status stays current over the engine's turn (R127). -/
theorem EngineEffect.latchCurrent_of_quiet {d : Draws} {s t : State} (h : EngineEffect d s t) (hq : s.quiet = true) :
    t.latchCurrent = s.latchCurrent := by
  rcases h.of_quiet hq with rfl | ⟨-, -, l, rfl⟩
  · rfl
  · exact State.latchCurrent_congr rfl rfl rfl rfl rfl rfl

/-- The engine's turn keeps what the label requires: it performs no phase where the label says there is none, and leaves
the flags the sequencer has latched. -/
theorem EngineEffect.labelOk {d : Draws} {s t : State} (h : EngineEffect d s t) (hl : s.labelOk = true) :
    t.labelOk = true := by
  have f := h.sameOutsideBus
  rcases h.eq_or_quiet with rfl | hquiet
  · exact hl
  have hnone : s.phase = .none → t.labelOk = true := fun hphase => h.eq_of_phase_none hphase ▸ hl
  cases hpc : s.pc with
  | ready | i0 | i1 | i2 | i3 | s0 | p0 | x0 | a0 | a3 => simp_all [State.labelOk, f.pc, f.op, f.arg, f.enable]
  | s1 | p2 | x2 | a1 | a2 => exact hnone (by simp_all [State.labelOk])
  | s2 | w4 | p1 => simp_all [State.labelOk, f.pc, f.op, f.arg]
  | s3 =>
    have hcur := h.latchCurrent_of_quiet (by simp_all [State.labelOk])
    simp_all [State.labelOk, f.pc, f.op, f.st]
  | x1 =>
    have hx1 : s.op = opcWriteByte ∧ (s.phase = .none ∨ s.phase = .tx s.arg) := by simpa [State.labelOk, hpc] using hl
    rcases hx1 with ⟨hop, hphase | hphase⟩
    · exact hnone hphase
    · rcases h.phase_of_tx hphase with rfl | hphase
      · exact hl
      · simp [State.labelOk, f.pc, hpc, f.op, hop, hphase]

/-- No label requires anything of `BUSSTATE`. -/
theorem labelOk_set_busState (s : State) (b : BusState) : { s with busState := b }.labelOk = s.labelOk := by
  have hcur : { s with busState := b }.latchCurrent = s.latchCurrent :=
    State.latchCurrent_congr rfl rfl rfl rfl rfl rfl
  simp only [State.labelOk, hcur]
  rfl

/-- A bus that is not owned can become idle or busy while enabled (R117, R118). -/
theorem CtlOk.set_busState {s : State} {b : BusState} (hi : CtlOk s) (hown : s.busState ≠ .owner)
    (hknown : s.busState ≠ .unknown) (hb : b ≠ .owner) : CtlOk { s with busState := b } :=
  { hi with
    sending := fun c hphase => absurd (hi.sending c hphase).1 hown
    receiving := fun hphase => absurd (hi.receiving hphase).1 hown
    stopping := fun hphase => absurd (hi.stopping hphase).1 hown
    noError := fun h => absurd h hb
    disabled := fun hdis => absurd (hi.disabled hdis).2.2.2.2.2 hknown }

/-- The environment's turn keeps what the invariant says of the controller. -/
theorem CtlOk.env {s t : State} (hi : CtlOk s) (h : t = envFreeStep s ∨ t = envTakeStep s) : CtlOk t := by
  rcases h with rfl | rfl
  · rcases envFreeStep_cases s with ⟨hbus, he⟩ | ⟨-, he⟩ <;> rw [he]
    · exact hi.set_busState (by simp [hbus]) (by simp [hbus]) (by simp)
    · exact hi
  · rcases envTakeStep_cases s with ⟨hbus, he⟩ | ⟨-, he⟩ <;> rw [he]
    · exact hi.set_busState (by simp [hbus]) (by simp [hbus]) (by simp)
    · exact hi

/-! ## Every turn -/

/-- The entry label is one of the operation accepted (R125). -/
theorem labelOk_accept {w : Word16} (hadm : reservedRequest w = false) (s : State) :
    (s.accept (opcOf w) (opdOf w) (entryLabel (opcOf w))).labelOk = true := by
  rw [← reqWord_opcOf_opdOf w, reservedRequest_reqWord_eq_false_iff] at hadm
  rcases hadm with ⟨hop, harg⟩ | (hop | hop) | hop | ⟨hop, harg⟩ | hop | ⟨hop | hop, harg⟩
  · rw [hop, harg]; rfl
  · rw [hop]; rfl
  · rw [hop]; rfl
  · rw [hop]; rfl
  · rw [hop, harg]; rfl
  · rw [hop]; rfl
  · rw [hop, harg]; rfl
  · rw [hop, harg]; rfl

/-- The environment's turn keeps the invariant. -/
theorem inv_env {s t : State} (hi : s.Inv = true) (h : t = envFreeStep s ∨ t = envTakeStep s) : t.Inv = true := by
  obtain ⟨hctl, hlabel, hrsp⟩ := State.inv_iff.mp hi
  have f := env_sameOutsideBus h
  obtain ⟨b, hb⟩ := env_eq_set_busState h
  exact State.inv_iff.mpr ⟨hctl.env h, by rw [hb, labelOk_set_busState]; exact hlabel, by rwa [f.pc, f.rsp]⟩

/-- Every turn keeps the invariant. -/
theorem TurnEffect.inv {m : Move} {s t : State} (h : TurnEffect s m t) (hi : s.Inv = true) : t.Inv = true := by
  obtain ⟨hctl, hlabel, hrsp⟩ := State.inv_iff.mp hi
  cases h with
  | accept hpc hadm => exact State.inv_iff.mpr ⟨{ hctl with }, labelOk_accept hadm s, .inr rfl⟩
  | idle => exact hi
  | seq h =>
    exact State.inv_iff.mpr ⟨h.ctlOk hctl hlabel, h.labelOk hctl hlabel, h.responseOk (hrsp.resolve_left h.pc_ne_ready)⟩
  | engine h =>
    have f := h.sameOutsideBus
    exact State.inv_iff.mpr ⟨h.ctlOk hctl, h.labelOk hlabel, by rwa [f.pc, f.rsp]⟩
  | envFree => exact inv_env hi (.inl rfl)
  | envTake => exact inv_env hi (.inr rfl)
  | reset => exact resetMeetsInvariant

/-- Settles O43: every turn of every agent keeps the controller's part, the label's and the response's. -/
theorem stepKeepsInvariant : Obligations.StepKeepsInvariant := by
  unfold Obligations.StepKeepsInvariant
  intro s t hi h
  obtain ⟨ms, n, he⟩ := step_effect h
  exact he.inv hi

end Sys2Proof.Machine
end

section
/-! What follows from the invariant: where a step faults or is refused, that decisions see the current flags, and the
source's bus-level machine (R95, R121, R127). -/

namespace Sys2Proof.Machine

/-! ## Faults and refusals (R63, R95, R162) -/

/-- `SEQ` stands at a trigger, while enabled, outside the trigger's condition of R95. -/
def State.atFault (s : State) : Prop :=
  s.enable = true ∧
    ((s.pc = .x0 ∧ ¬(s.busState = .owner ∧ s.phase = .none ∧ s.dir = .write)) ∨
      (s.pc = .p0 ∧ ¬(s.busState = .owner ∧ s.phase = .none)) ∨
      (s.pc = .a2 ∧ s.busState ≠ .owner))

/-! What operation is in the latches, by the label `SEQ` stands at (R21). -/

section
variable {s : State} (hl : s.labelOk = true)
include hl

theorem op_of_init_label (hpc : s.pc = .i0 ∨ s.pc = .i1 ∨ s.pc = .i2 ∨ s.pc = .i3) : s.op = opcInit ∧ s.arg = 0 := by
  rcases hpc with h | h | h | h <;> simp_all [State.labelOk]

theorem op_of_start_label (hpc : s.pc = .s0 ∨ s.pc = .s1 ∨ s.pc = .s2 ∨ s.pc = .s3) :
    s.op = opcStart ∨ s.op = opcRepeatedStart ∨ s.op = opcStartWithRetry := by
  rcases hpc with h | h | h | h <;> simp_all [State.labelOk, or_assoc]

theorem op_of_wait_label (hpc : s.pc = .w4) : s.op = opcStartWithRetry := by
  simp_all [State.labelOk]

theorem op_of_stop_label (hpc : s.pc = .p0 ∨ s.pc = .p1 ∨ s.pc = .p2) : s.op = opcStop ∧ s.arg = 0 := by
  rcases hpc with h | h | h <;> simp_all [State.labelOk]

theorem op_of_write_label (hpc : s.pc = .x0 ∨ s.pc = .x1 ∨ s.pc = .x2) : s.op = opcWriteByte := by
  rcases hpc with h | h | h <;> simp_all [State.labelOk]

theorem op_of_read_label (hpc : s.pc = .a0 ∨ s.pc = .a1 ∨ s.pc = .a2 ∨ s.pc = .a3) :
    (s.op = opcReadByteAck ∨ s.op = opcReadByteNak) ∧ s.arg = 0 := by
  rcases hpc with h | h | h | h <;> simp_all [State.labelOk]

/-- At `A2` a received byte waits and no phase is posted (R155). -/
theorem received_of_label_a2 (hpc : s.pc = .a2) : s.phase = .none ∧ s.rif = true := by
  simp_all [State.labelOk]

end

/-- `SEQ`'s turn at the trigger `P0` outside its condition (R162). -/
theorem seqTurn_of_fault_p0 {s : State} (hpc : s.pc = .p0) (hop : s.op = opcStop) (harg : s.arg = 0)
    (hen : s.enable = true) (hout : ¬(s.busState = .owner ∧ s.phase = .none)) :
    seqTurn s = .fault .undefinedSequence := by
  rw [seqTurn_of_running (by rw [hop, harg]; decide) (by simp [hpc]), hop]
  exact stopMicro_of_fault hpc hen hout

/-- `SEQ`'s turn at the trigger `X0` outside its condition (R162). -/
theorem seqTurn_of_fault_x0 {s : State} (hpc : s.pc = .x0) (hop : s.op = opcWriteByte) (hen : s.enable = true)
    (hout : ¬(s.busState = .owner ∧ s.phase = .none ∧ s.dir = .write)) : seqTurn s = .fault .undefinedSequence := by
  rw [seqTurn_of_running (reqWord_admitted _ (by simp [hop])) (by simp [hpc]), hop]
  exact writeMicro_of_fault hpc hen hout

/-- `SEQ`'s turn at the trigger `A2` outside its condition (R162). -/
theorem seqTurn_of_fault_a2 {s : State} (hpc : s.pc = .a2) (hop : s.op = opcReadByteAck ∨ s.op = opcReadByteNak)
    (harg : s.arg = 0) (hen : s.enable = true) (hbus : s.busState ≠ .owner) :
    seqTurn s = .fault .undefinedSequence := by
  have hfault := readMicro_of_fault hpc hen (fun h => hbus h.1)
  rcases hop with hop | hop <;>
    (rw [seqTurn_of_running (by rw [hop, harg]; decide) (by simp [hpc]), hop]; exact hfault)

/-! Each micro-program has a step at each of its labels, at a trigger under its condition. -/

section
variable {s : State}

theorem InitStep.exists_step (hpc : s.pc = .i0 ∨ s.pc = .i1 ∨ s.pc = .i2 ∨ s.pc = .i3) : ∃ t, InitStep s t := by
  rcases hpc with h | h | h | h
  exacts [⟨_, .divisor h⟩, ⟨_, .enable h⟩, ⟨_, .forceIdle h⟩, ⟨_, .answer h⟩]

theorem StartStep.exists_step (hpc : s.pc = .s0 ∨ s.pc = .s1 ∨ s.pc = .s2 ∨ s.pc = .s3) : ∃ t, StartStep s t := by
  rcases hpc with h | h | h | h
  · cases hen : s.enable with
    | true => exact ⟨_, .flush h hen⟩
    | false => exact ⟨_, .flushDisabled h hen⟩
  · cases hen : s.enable with
    | true => exact ⟨_, .address h hen⟩
    | false => exact ⟨_, .addressDisabled h hen⟩
  · exact ⟨_, .poll h⟩
  · by_cases hop : s.op = opcStartWithRetry
    · cases hst : errSet s.st || nakSet s.st with
      | true => exact ⟨_, .retries h hst hop⟩
      | false => exact ⟨_, .succeeds h hst⟩
    · exact ⟨_, .decide h hop⟩

theorem WaitStep.exists_step (hpc : s.pc = .w4) : ∃ t, WaitStep s t := by
  by_cases hbus : s.busState = .idle
  exacts [⟨_, .again hpc hbus⟩, ⟨_, .waits hpc hbus⟩]

theorem StopStep.exists_step (hpc : s.pc = .p0 ∨ s.pc = .p1 ∨ s.pc = .p2)
    (hin : s.pc = .p0 → s.enable = true → s.busState = .owner ∧ s.phase = .none) : ∃ t, StopStep s t := by
  rcases hpc with h | h | h
  · cases hen : s.enable with
    | true => exact ⟨_, .stop h hen (hin h hen).1 (hin h hen).2⟩
    | false => exact ⟨_, .stopDisabled h hen⟩
  · by_cases hbus : s.busState = .idle
    exacts [⟨_, .polled h hbus⟩, ⟨_, .waits h hbus⟩]
  · exact ⟨_, .answer h⟩

theorem WriteStep.exists_step (hpc : s.pc = .x0 ∨ s.pc = .x1 ∨ s.pc = .x2)
    (hin : s.pc = .x0 → s.enable = true → s.busState = .owner ∧ s.phase = .none ∧ s.dir = .write) :
    ∃ t, WriteStep s t := by
  rcases hpc with h | h | h
  · cases hen : s.enable with
    | true =>
      obtain ⟨hbus, hphase, hdir⟩ := hin h hen
      exact ⟨_, .send h hen hbus hphase hdir⟩
    | false => exact ⟨_, .sendDisabled h hen⟩
  · cases hif : s.wif with
    | true => exact ⟨_, .polled h hif⟩
    | false => exact ⟨_, .waits h hif⟩
  · exact ⟨_, .answer h⟩

theorem ReadStep.exists_step (hpc : s.pc = .a0 ∨ s.pc = .a1 ∨ s.pc = .a2 ∨ s.pc = .a3)
    (hin : s.pc = .a2 → s.enable = true → s.busState = .owner ∧ s.phase = .none ∧ s.dir = .read ∧ s.rif = true) :
    ∃ t, ReadStep s t := by
  rcases hpc with h | h | h | h
  · cases hif : s.rif with
    | true => exact ⟨_, .polled h hif⟩
    | false => exact ⟨_, .waits h hif⟩
  · exact ⟨_, .capture h⟩
  · cases hen : s.enable with
    | true =>
      obtain ⟨hbus, hphase, hdir, hif⟩ := hin h hen
      by_cases hop : s.op = opcReadByteAck
      exacts [⟨_, .recvAck h hop hen hbus hphase hdir hif⟩, ⟨_, .recvNak h hop hen hbus hphase hdir hif⟩]
    | false => exact ⟨_, .recvDisabled h hen⟩
  · exact ⟨_, .answer h⟩

end

/-- In the states of the invariant `SEQ` faults at a trigger outside its condition. -/
theorem seqTurn_of_atFault {s : State} (hl : s.labelOk = true) (h : s.atFault) :
    seqTurn s = .fault .undefinedSequence := by
  obtain ⟨hen, ⟨hpc, hout⟩ | ⟨hpc, hout⟩ | ⟨hpc, hbus⟩⟩ := h
  · exact seqTurn_of_fault_x0 hpc (op_of_write_label hl (.inl hpc)) hen hout
  · obtain ⟨hop, harg⟩ := op_of_stop_label hl (.inl hpc)
    exact seqTurn_of_fault_p0 hpc hop harg hen hout
  · obtain ⟨hop, harg⟩ := op_of_read_label hl (.inr (.inr (.inl hpc)))
    exact seqTurn_of_fault_a2 hpc hop harg hen hbus

/-- In the states of the invariant `SEQ`'s turn goes on everywhere else. -/
theorem seqTurn_of_not_atFault {s : State} (hi : CtlOk s) (hl : s.labelOk = true) (h : ¬s.atFault) :
    ∃ t, seqTurn s = .next t := by
  have hx0 : s.pc = .x0 → s.enable = true → s.busState = .owner ∧ s.phase = .none ∧ s.dir = .write :=
    fun hp hen => by_contra fun hout => h ⟨hen, .inl ⟨hp, hout⟩⟩
  have hp0 : s.pc = .p0 → s.enable = true → s.busState = .owner ∧ s.phase = .none :=
    fun hp hen => by_contra fun hout => h ⟨hen, .inr (.inl ⟨hp, hout⟩)⟩
  have ha2 : s.pc = .a2 → s.enable = true → s.busState = .owner :=
    fun hp hen => by_contra fun hout => h ⟨hen, .inr (.inr ⟨hp, hout⟩)⟩
  cases hpc : s.pc with
  | ready => exact ⟨s, seqTurn_of_ready hpc⟩
  | i0 | i1 | i2 | i3 =>
    obtain ⟨hop, harg⟩ := op_of_init_label hl (by simp [hpc])
    exact (InitStep.exists_step (by simp [hpc])).imp fun _ h => (SeqStep.init hop harg h).turn
  | s0 | s1 | s2 | s3 =>
    have hop := op_of_start_label hl (by simp [hpc])
    exact (StartStep.exists_step (by simp [hpc])).imp fun _ h => (SeqStep.start hop h).turn
  | w4 => exact (WaitStep.exists_step hpc).imp fun _ h => (SeqStep.wait (op_of_wait_label hl hpc) h).turn
  | p0 | p1 | p2 =>
    obtain ⟨hop, harg⟩ := op_of_stop_label hl (by simp [hpc])
    exact (StopStep.exists_step (by simp [hpc]) hp0).imp fun _ h => (SeqStep.stop hop harg h).turn
  | x0 | x1 | x2 =>
    have hop := op_of_write_label hl (by simp [hpc])
    exact (WriteStep.exists_step (by simp [hpc]) hx0).imp fun _ h => (SeqStep.write hop h).turn
  | a0 | a1 | a2 | a3 =>
    obtain ⟨hop, harg⟩ := op_of_read_label hl (by simp [hpc])
    refine (ReadStep.exists_step (by simp [hpc]) fun hp hen => ?_).imp fun _ h => (SeqStep.read hop harg h).turn
    obtain ⟨hphase, hif⟩ := received_of_label_a2 hl hp
    exact ⟨ha2 hp hen, hphase, hi.received hif, hif⟩

/-- Only `SEQ`'s turn can fault (R162). -/
theorem runMove_eq_fault {m : Move} {s : State} {x : Fault} (h : runMove m s = .fault x) :
    m = .seq ∧ seqTurn s = .fault x := by
  cases m with
  | host w =>
    by_cases hpc : s.pc = .ready
    · cases hres : reservedRequest w with
      | true => cases (hostTurn_of_reserved hpc hres).symm.trans h
      | false => cases (hostTurn_of_accepted hpc hres).symm.trans h
    · cases (hostTurn_of_running hpc w).symm.trans h
  | seq => exact ⟨rfl, h⟩
  | engine | envFree | envTake | reset => cases h

/-- The parts of the invariant do not speak of the schedule. -/
theorem inv_of_takeMove {s : State} (hi : s.Inv = true) : CtlOk (takeMove s) ∧ (takeMove s).labelOk = true := by
  obtain ⟨hctl, hlabel, -⟩ := State.inv_iff.mp hi
  rw [takeMove_eq]
  exact ⟨{ hctl with }, hlabel⟩

/-- Taking a turn from the schedule leads to no fault. -/
theorem atFault_takeMove (s : State) : (takeMove s).atFault ↔ s.atFault := by
  rw [takeMove_eq]
  rfl

/-- Settles O45: `SEQ`'s turn faults at a trigger outside its condition, and no other turn does. -/
theorem faultsExactlyOutsideWindow : Obligations.FaultsExactlyOutsideWindow := by
  unfold Obligations.FaultsExactlyOutsideWindow
  intro s hi
  obtain ⟨hctl, hlabel⟩ := inv_of_takeMove hi
  constructor
  · rintro ⟨r, hr⟩
    obtain ⟨hseq, hfault⟩ := runMove_eq_fault hr
    refine ⟨hseq, (atFault_takeMove s).mp ?_⟩
    by_contra hno
    obtain ⟨t, ht⟩ := seqTurn_of_not_atFault hctl hlabel hno
    cases ht.symm.trans hfault
  · rintro ⟨hseq, hat⟩
    refine ⟨.undefinedSequence, ?_⟩
    rw [step, stepTurn, hseq]
    exact seqTurn_of_atFault hlabel ((atFault_takeMove s).mpr hat)

/-- In the states of the invariant no turn of `SEQ` is refused (R21). -/
theorem seqTurn_ne_refused {s : State} (hi : CtlOk s) (hl : s.labelOk = true) (r : Refusal) :
    seqTurn s ≠ .refused r := by
  intro hr
  by_cases hat : s.atFault
  · cases (seqTurn_of_atFault hl hat).symm.trans hr
  · obtain ⟨t, ht⟩ := seqTurn_of_not_atFault hi hl hat
    cases ht.symm.trans hr

/-- When `HOST`'s turn is refused (R63, log entry 10). -/
theorem hostTurn_eq_refused_iff {w : Word16} {s : State} {r : Refusal} : hostTurn w s = .refused r ↔
    (s.pc ≠ .ready ∧ r = .hostNotReady) ∨ (s.pc = .ready ∧ reservedRequest w = true ∧ r = .reservedRequest w) := by
  by_cases hpc : s.pc = .ready
  · cases hres : reservedRequest w with
    | true => simp only [hostTurn_of_reserved hpc hres, Host.Outcome.refused.injEq, hpc]; tauto
    | false => simp [hostTurn_of_accepted hpc hres, hpc]
  · simp only [hostTurn_of_running hpc, Host.Outcome.refused.injEq, hpc]; tauto

/-- Settles O46: `HOST`'s turn by its two refusals; no other agent's turn is refused. -/
theorem refusalsOnlyForHost : Obligations.RefusalsOnlyForHost := by
  unfold Obligations.RefusalsOnlyForHost
  intro s r hi
  obtain ⟨hctl, hlabel⟩ := inv_of_takeMove hi
  have hpc : (takeMove s).pc = s.pc := by rw [takeMove_eq]
  rw [step, stepTurn]
  cases nextMove s with
  | host w =>
    change hostTurn w (takeMove s) = _ ↔ _
    simp [hostTurn_eq_refused_iff, hpc]
  | seq =>
    change seqTurn (takeMove s) = _ ↔ _
    simp [seqTurn_ne_refused hctl hlabel r]
  | engine | envFree | envTake | reset => simp [runMove]

/-! ## Decisions see the current flags (R127) -/

section
variable {s : State} (h : s.latchCurrent = true)
include h

/-- A test inside the flag bits answers alike on the latched status and on the current one. -/
theorem and_st_of_latchCurrent {m : Byte} (hm : maskFlags &&& m = m) : s.st &&& m = s.statusByte &&& m := by
  have hcur : s.statusByte &&& maskFlags = s.st &&& maskFlags := beq_iff_eq.mp h
  rw [← hm, ← BitVec.and_assoc, ← BitVec.and_assoc, hcur]

theorem errSet_of_latchCurrent : errSet s.st = (s.arblost || s.buserr) := by
  rw [← errSet_statusByte, errSet, errSet, and_st_of_latchCurrent h (by decide)]

theorem nakSet_of_latchCurrent : nakSet s.st = s.rxack := by
  rw [← nakSet_statusByte, nakSet, nakSet, and_st_of_latchCurrent h (by decide)]

end

/-- At the two decision labels the latched status is current (R127). -/
theorem latchCurrent_of_decision {s : State} (hl : s.labelOk = true) (hpc : s.pc = .s3 ∨ s.pc = .x2) :
    s.latchCurrent = true := by
  rcases hpc with h | h <;> simp_all [State.labelOk]

/-- Settles O50: the invariant says at `S3` and `X2` that the latched status is current. -/
theorem decisionsSeeCurrentFlags : Obligations.DecisionsSeeCurrentFlags := by
  unfold Obligations.DecisionsSeeCurrentFlags
  refine ⟨fun s t hi h => ?arrive, fun s hi => ?decide⟩
  case arrive =>
    obtain ⟨-, hlabel, -⟩ := State.inv_iff.mp (stepKeepsInvariant s t hi h)
    refine ⟨fun hpc => ?_, fun hpc => nakSet_of_latchCurrent (latchCurrent_of_decision hlabel (.inr hpc))⟩
    have hcur := latchCurrent_of_decision hlabel (.inl hpc)
    exact ⟨errSet_of_latchCurrent hcur, nakSet_of_latchCurrent hcur⟩
  case decide =>
    obtain ⟨-, hlabel, -⟩ := State.inv_iff.mp hi
    have hst : s.pc = .s3 → (errSet s.st || nakSet s.st) = (s.arblost || s.buserr || s.rxack) := fun hpc => by
      have hcur := latchCurrent_of_decision hlabel (.inl hpc)
      rw [errSet_of_latchCurrent hcur, nakSet_of_latchCurrent hcur]
    refine ⟨fun i hi hpc => ?answers, fun hpc hop hbad => ?retries, fun hpc hop harb herr hnak => ?succeeds,
      fun hpc => ?writes⟩
    case answers =>
      have hstep : s.op ≠ opcStartWithRetry → StartStep s { s with
          rsp := some (if s.arblost = true ∨ s.buserr = true ∨ s.rxack = true then 0x0100 else 0x0000),
          pc := .ready } := fun hop => by
        split
        case isTrue h => exact .fails hpc (by simpa [hst hpc, or_assoc] using h) hop
        case isFalse h => exact .succeeds hpc (by simpa [hst hpc, and_assoc] using h)
      rcases hi with ⟨rfl, hop⟩ | ⟨rfl, hop⟩
      · exact (hstep (by rw [hop]; decide)).exec_start hop
      · exact (hstep (by rw [hop]; decide)).exec_repeatedStart hop
    case retries => exact StartStep.exec_startWithRetry hop (.retries hpc (by simpa [hst hpc, or_assoc] using hbad) hop)
    case succeeds => exact StartStep.exec_startWithRetry hop (.succeeds hpc (by simp [hst hpc, harb, herr, hnak]))
    case writes =>
      have hexec := WriteStep.exec (op_of_write_label hlabel (.inr (.inr hpc))) (.answer hpc)
      rwa [nakSet_of_latchCurrent (latchCurrent_of_decision hlabel (.inr hpc))] at hexec

end Sys2Proof.Machine
end

section
/-! The source's bus-level state machine (R121): where each answer of the bus and each operation leads. -/

namespace Sys2Proof.Machine

/-- An address phase was accepted: its flag is set, no error or NAK with it, and the transaction is open (R111). -/
structure Accepted (t : State) : Prop where
  flag : (t.rif || t.wif) = true
  bus : t.busState = .owner
  phase : t.phase = .none
  ack : t.rxack = false
  ok : t.arblost = false ∧ t.buserr = false

/-- An address phase was not accepted: the flag that says so, and the bus toward idle (R111, R116). -/
structure Declined (t : State) : Prop where
  flag : (t.rif || t.wif) = true
  bad : (t.arblost || t.buserr || t.rxack) = true
  bus : (t.busState = .owner ∧ t.phase = .stop) ∨ ((t.busState = .idle ∨ t.busState = .busy) ∧ t.phase = .none)

section
variable {d : Draws} {s t : State}

/-- The address phase, once performed, is accepted or declined by the draws (R111). -/
theorem EngineEffect.of_address {a : Byte} (h : EngineEffect d s t) (hphase : s.phase = .addr a)
    (hen : s.engineEnabled = true) (herr : s.arblost = false ∧ s.buserr = false) :
    (drawsAccept a d ∧ Accepted t) ∨ (¬drawsAccept a d ∧ Declined t) := by
  cases h with
  | waits hdis => cases hen.symm.trans hdis
  | addressedWrite h _ _ hans hdir =>
    cases hphase.symm.trans h
    exact .inl ⟨⟨hans, fun hread => by simp [hdir] at hread⟩, by simp, rfl, rfl, rfl, herr⟩
  | addressedRead h _ _ hans _ hrx =>
    cases hphase.symm.trans h
    exact .inl ⟨⟨hans, fun _ => ⟨_, hrx⟩⟩, by simp, rfl, rfl, rfl, herr⟩
  | refused h _ _ hans => exact .inr ⟨fun ⟨hack, _⟩ => by simp [hans] at hack, by simp, by simp, .inl ⟨rfl, rfl⟩⟩
  | lost _ hfails hbus hset =>
    rcases hfails with ⟨b, h, -, hno⟩ | ⟨b, h, -⟩ | ⟨h, -⟩ <;> cases hphase.symm.trans h
    exact .inr ⟨hno, by simp, by simp [hset], .inr ⟨hbus, rfl⟩⟩
  | sent h | received h | stopped h => cases hphase.symm.trans h

end

theorem State.inDataPhase_iff {s : State} : s.inDataPhase = true ↔
    s.busState = .owner ∧ s.phase ≠ .stop ∧ ∀ a, s.phase ≠ .addr a := by
  unfold State.inDataPhase
  cases s.phase <;> simp

theorem State.towardIdle_iff {s : State} : s.towardIdle = true ↔
    s.phase = .stop ∨ s.busState = .busy ∨ s.busState = .idle := by
  simp [State.towardIdle, or_assoc]

theorem Accepted.inDataPhase {t : State} (h : Accepted t) : t.inDataPhase = true :=
  State.inDataPhase_iff.mpr ⟨h.bus, by simp [h.phase], by simp [h.phase]⟩

/-- Off the bus, or with a stop posted, no transaction is open and the bus goes toward idle (R121). -/
theorem left_dataPhase {t : State} (h : t.phase = .stop ∨ t.busState = .idle ∨ t.busState = .busy) :
    t.inDataPhase = false ∧ t.towardIdle = true := by
  refine ⟨Bool.eq_false_iff.mpr fun hdata => ?_, State.towardIdle_iff.mpr (by tauto)⟩
  obtain ⟨hbus, hstop, -⟩ := State.inDataPhase_iff.mp hdata
  rcases h with h | h | h
  exacts [hstop h, by simp [hbus] at h, by simp [hbus] at h]

theorem Declined.left_dataPhase {t : State} (h : Declined t) : t.inDataPhase = false ∧ t.towardIdle = true :=
  Machine.left_dataPhase (h.bus.imp (·.2) (·.1))

section
variable {d : Draws} {s t : State}

/-- A byte sent stays in the data phase, an error leads out of it (R113, R116). -/
theorem EngineEffect.dataPhase_of_tx {b : Byte} (h : EngineEffect d s t) (hphase : s.phase = .tx b)
    (hen : s.enable = true) (hbus : s.busState = .owner) :
    (d.ans = .ack ∨ d.ans = .nak → t.inDataPhase = true) ∧
    (d.ans = .arbLost ∨ d.ans = .busErr → t.inDataPhase = false ∧ t.towardIdle = true) := by
  cases h with
  | waits hdis => cases (State.engineEnabled_of_tx hen hphase).symm.trans hdis
  | sent _ _ hans =>
    refine ⟨fun _ => State.inDataPhase_iff.mpr ⟨hbus, by simp, by simp⟩, fun herr => ?_⟩
    rcases hans with ⟨hans, -⟩ | ⟨hans, -⟩ <;> simp [hans] at herr
  | lost _ hfails hlost =>
    rcases hfails with ⟨a, h, -⟩ | ⟨b, -, herr⟩ | ⟨h, -⟩
    · cases hphase.symm.trans h
    · exact ⟨fun hans => by rcases herr with herr | herr <;> simp [herr] at hans, fun _ => left_dataPhase (.inr hlost)⟩
    · cases hphase.symm.trans h
  | addressedWrite h | addressedRead h | refused h | received h | stopped h => cases hphase.symm.trans h

/-- A byte received stays in the data phase, an error leads out of it (R114, R116). -/
theorem EngineEffect.dataPhase_of_rx (h : EngineEffect d s t) (hphase : s.phase = .rx) (hen : s.enable = true)
    (hbus : s.busState = .owner) :
    (∀ b, d.rx = .byte b → t.inDataPhase = true) ∧
    (d.rx = .arbLost ∨ d.rx = .busErr → t.inDataPhase = false ∧ t.towardIdle = true) := by
  cases h with
  | waits hdis => cases (State.engineEnabled_of_rx hen hphase).symm.trans hdis
  | received _ _ hrx =>
    exact ⟨fun _ _ => State.inDataPhase_iff.mpr ⟨hbus, by simp, by simp⟩, fun herr => by simp [hrx] at herr⟩
  | lost _ hfails hlost =>
    rcases hfails with ⟨a, h, -⟩ | ⟨b, h, -⟩ | ⟨-, herr⟩
    · cases hphase.symm.trans h
    · cases hphase.symm.trans h
    · exact ⟨fun b hrx => by simp [hrx] at herr, fun _ => left_dataPhase (.inr hlost)⟩
  | addressedWrite h | addressedRead h | refused h | sent h | stopped h => cases hphase.symm.trans h

end

/-- A stop phase ends in idle (R115). -/
theorem inIdle_of_stop {s : State} (hen : s.enable = true) (hphase : s.phase = .stop) (d : Draws) :
    (engineStep d s).inIdle = true := by
  rw [engineStep_of_stop hen hphase]
  rfl

/-- Settles O27: the engine's arrows by the outcome of the phase, the operations' arrows by the step that posts it. -/
theorem busMachine : Obligations.BusMachine := by
  unfold Obligations.BusMachine
  intro d s hi hen
  obtain ⟨hctl, hlabel, -⟩ := State.inv_iff.mp hi
  have heffect := engineStep_effect d s
  refine ⟨fun a hphase hbus => ?address, fun b hphase => heffect.dataPhase_of_tx hphase hen (hctl.sending b hphase).1,
    fun hphase => heffect.dataPhase_of_rx hphase hen (hctl.receiving hphase).1, fun hphase => inIdle_of_stop hen hphase d,
    fun i hop hpc _ => ?start, fun hpc hdata hphase hdir => ?write, fun hpc hop hdata => ?readAck,
    fun hpc hop hdata => ?readNak, fun hpc hdata hphase => ?stop⟩
  case address =>
    have henabled := (State.engineEnabled_addr_iff hphase).mpr ⟨hen, hbus⟩
    obtain ⟨-, -, herr⟩ := hctl.addressing a hphase
    rcases heffect.of_address hphase henabled herr with ⟨hacc, h⟩ | ⟨hacc, h⟩
    · exact ⟨fun _ => h.inDataPhase, absurd hacc⟩
    · exact ⟨(absurd · hacc), fun _ => h.left_dataPhase⟩
  case start =>
    have hstep := StartStep.address hpc hen
    rcases hop with ⟨rfl, hop⟩ | ⟨rfl, hop⟩ | ⟨rfl, hop⟩
    · exact ⟨_, hstep.exec_start hop, rfl⟩
    · exact ⟨_, hstep.exec_repeatedStart hop, rfl⟩
    · exact ⟨_, hstep.exec_startWithRetry hop, rfl⟩
  case write =>
    obtain ⟨hbus, -⟩ := State.inDataPhase_iff.mp hdata
    have hop := op_of_write_label hlabel (.inl hpc)
    exact ⟨_, (WriteStep.send hpc hen hbus hphase hdir).exec hop, by simp [State.inDataPhase, hbus], rfl⟩
  case readAck =>
    obtain ⟨hbus, -⟩ := State.inDataPhase_iff.mp hdata
    obtain ⟨hphase, hif⟩ := received_of_label_a2 hlabel hpc
    obtain ⟨-, harg⟩ := op_of_read_label hlabel (.inr (.inr (.inl hpc)))
    have hstep := ReadStep.recvAck hpc hop hen hbus hphase (hctl.received hif) hif
    exact ⟨_, hstep.exec_readByteAck hop harg, by simp [State.inDataPhase, hbus], rfl⟩
  case readNak =>
    obtain ⟨hbus, -⟩ := State.inDataPhase_iff.mp hdata
    obtain ⟨hphase, hif⟩ := received_of_label_a2 hlabel hpc
    obtain ⟨-, harg⟩ := op_of_read_label hlabel (.inr (.inr (.inl hpc)))
    have hstep := ReadStep.recvNak hpc (by rw [hop]; decide) hen hbus hphase (hctl.received hif) hif
    exact ⟨_, hstep.exec_readByteNak hop harg, by simp [State.inDataPhase, hbus, hphase], hphase⟩
  case stop =>
    obtain ⟨hbus, -⟩ := State.inDataPhase_iff.mp hdata
    obtain ⟨hop, harg⟩ := op_of_stop_label hlabel (.inl hpc)
    obtain ⟨hleft, htoward⟩ := left_dataPhase (t := { s with
      rif := false, wif := false, phase := .stop, regLog := s.regLog ++ [.w .cmd 0x03], pc := .p1 }) (.inl rfl)
    refine ⟨_, (StopStep.stop hpc hen hbus hphase).exec hop harg, hleft, htoward, ?_⟩
    apply inIdle_of_stop
    exacts [hen, rfl]

end Sys2Proof.Machine
end

section
/-! Runs of turns: one turn at a time, and what every interleaving of `SEQ`, `CTL` and `ENV` keeps. -/

namespace Sys2Proof.Machine

/-! ## The first turn of a run -/

section
variable {s t : State} {ms : List Move}

theorem runMoves_cons_of_next {m : Move} (h : runMove m s = .next t) : runMoves (m :: ms) s = runMoves ms t := by
  simp [runMoves, h]

theorem runMoves_host {w : Word16} (hpc : s.pc = .ready) (hadm : reservedRequest w = false) :
    runMoves (.host w :: ms) s = runMoves ms (s.accept (opcOf w) (opdOf w) (entryLabel (opcOf w))) :=
  runMoves_cons_of_next (hostTurn_of_accepted hpc hadm)

theorem run_host {c b : Byte} {u : State} (hpc : s.pc = .ready) (hadm : reservedRequest (reqWord c b) = false)
    (h : runMoves ms (s.accept c b (entryLabel c)) = .next u) : runMoves (.host (reqWord c b) :: ms) s = .next u := by
  rwa [runMoves_host hpc hadm, opcOf_reqWord, opdOf_reqWord]

theorem run_seq {u : State} (hstep : SeqStep s t) (h : runMoves ms t = .next u) : runMoves (.seq :: ms) s = .next u :=
  (runMoves_cons_of_next (m := .seq) hstep.turn).trans h

theorem run_engine {d : Draws} {u : State} (heffect : engineStep d s = t) (h : runMoves ms t = .next u) :
    runMoves (.engine d :: ms) s = .next u :=
  (runMoves_cons_of_next (m := .engine d) (congrArg Host.Outcome.next heffect)).trans h

theorem run_stopPhase {d : Draws} {u : State} (hen : s.enable = true) (hphase : s.phase = .stop)
    (h : runMoves ms (gStop s) = .next u) : runMoves (.engine d :: ms) s = .next u :=
  run_engine (engineStep_of_stop hen hphase d) h

end

/-! ## Interleavings -/

/-- An internal turn is one of `SEQ`, of the engine or of the environment (R46). -/
theorem internal_turn {P : State → Prop} {m : Move} {s : State} (hm : isInternal m = true)
    (hseq : m = .seq → ∃ t, seqTurn s = .next t ∧ P t) (hengine : ∀ d t, m = .engine d → EngineEffect d s t → P t)
    (henv : ∀ t, (m = .envFree ∧ t = envFreeStep s) ∨ (m = .envTake ∧ t = envTakeStep s) → P t) :
    ∃ t, runMove m s = .next t ∧ P t := by
  cases m with
  | host | reset => cases hm
  | seq => exact hseq rfl
  | engine d => exact ⟨_, rfl, hengine d _ rfl (engineStep_effect d s)⟩
  | envFree => exact ⟨_, rfl, henv _ (.inl ⟨rfl, rfl⟩)⟩
  | envTake => exact ⟨_, rfl, henv _ (.inr ⟨rfl, rfl⟩)⟩

/-- What each internal turn carries on, from the turns taken so far to those with one more, every interleaving of internal
turns carries through, and it goes on for ever. -/
theorem runMoves_history {P : List Move → State → Prop}
    (hturn : ∀ ms m s, isInternal m = true → P ms s → ∃ t, runMove m s = .next t ∧ P (ms ++ [m]) t) (ns : List Move) :
    ∀ {ms s}, (∀ m ∈ ns, isInternal m = true) → P ms s → ∃ t, runMoves ns s = .next t ∧ P (ms ++ ns) t := by
  induction ns with
  | nil => exact fun {ms s} _ h => ⟨s, rfl, by simpa using h⟩
  | cons m ns ih =>
    intro ms s hns h
    obtain ⟨u, hu, hPu⟩ := hturn ms m s (hns m List.mem_cons_self) h
    obtain ⟨t, ht, hPt⟩ := ih (fun n hn => hns n (List.mem_cons_of_mem m hn)) hPu
    exact ⟨t, (runMoves_cons_of_next hu).trans ht, by simpa using hPt⟩

/-- What each internal turn keeps, every interleaving of internal turns keeps. -/
theorem runMoves_invariant {P : State → Prop}
    (hturn : ∀ m s, isInternal m = true → P s → ∃ t, runMove m s = .next t ∧ P t) {ns : List Move} {s : State}
    (hns : ∀ m ∈ ns, isInternal m = true) (h : P s) : ∃ t, runMoves ns s = .next t ∧ P t :=
  runMoves_history (P := fun _ => P) (fun _ m s => hturn m s) ns (ms := []) hns h

/-- On an owned bus the environment has no step (R117, R118). -/
theorem env_eq_of_owner {s t : State} (hbus : s.busState = .owner) (h : t = envFreeStep s ∨ t = envTakeStep s) :
    t = s := by
  rcases h with rfl | rfl
  exacts [envFreeStep_of_not_busy (by simp [hbus]), envTakeStep_of_not_idle (by simp [hbus])]

/-- The turn of an environment's agent as one of the two steps. -/
theorem env_of_move {m : Move} {s t : State}
    (h : (m = .envFree ∧ t = envFreeStep s) ∨ (m = .envTake ∧ t = envTakeStep s)) :
    t = envFreeStep s ∨ t = envTakeStep s := h.imp (·.2) (·.2)

end Sys2Proof.Machine
end

section
/-! A read with no byte waiting and none asked for (R93, R156, R168). -/

namespace Sys2Proof.Machine

/-- A read polls at `A0` with no byte waiting and no receive phase posted; its response slot holds `r`. -/
structure Starved (r : Option Word16) (s : State) : Prop where
  pc : s.pc = .a0
  op : s.op = opcReadByteAck ∨ s.op = opcReadByteNak
  arg : s.arg = 0
  rif : s.rif = false
  quiet : s.quiet = true
  rsp : s.rsp = r

/-- Every internal turn leaves a starved read starved. -/
theorem Starved.turn {r : Option Word16} {m : Move} {s : State} (hm : isInternal m = true) (h : Starved r s) :
    ∃ t, runMove m s = .next t ∧ Starved r t := by
  refine internal_turn hm (fun _ => ?seq) (fun d t _ he => ?engine) (fun t he => ?env)
  case seq => exact ⟨_, (SeqStep.read h.op h.arg (.waits h.pc h.rif)).turn, { h with pc := rfl }⟩
  case engine =>
    rcases he.of_quiet h.quiet with rfl | ⟨-, -, l, rfl⟩
    · exact h
    · exact { h with quiet := rfl }
  case env =>
    obtain ⟨b, rfl⟩ := env_eq_set_busState (env_of_move he)
    exact { h with }

/-- Settles O53: no internal turn brings a byte. -/
theorem readWithoutByteNeverAnswers : Obligations.ReadWithoutByteNeverAnswers := by
  unfold Obligations.ReadWithoutByteNeverAnswers
  intro ms s hms hpc hop harg hrif hquiet
  obtain ⟨t, ht, h⟩ := runMoves_invariant (fun _ _ => Starved.turn) hms (s := s) (P := Starved s.rsp)
    ⟨hpc, hop, harg, hrif, hquiet, rfl⟩
  exact ⟨t, ht, h.pc, h.rsp⟩

end Sys2Proof.Machine
end

section
/-! A data-phase operation accepted inside its window meets no fault (R95, R183). -/

namespace Sys2Proof.Machine

/-- A step of `SEQ` leaves the operation in its latches (R19). -/
theorem SeqStep.latches {s t : State} (h : SeqStep s t) : t.op = s.op ∧ t.arg = s.arg := by
  cases h with
  | init _ _ h | start _ h | wait _ h | stop _ _ h | write _ h | read _ _ h => cases h <;> exact ⟨rfl, rfl⟩

/-- A data-phase operation accepted inside its window, at each of its labels: what keeps its trigger inside the condition
of R95. -/
inductive InsideWindow (s : State) : Prop
  | writing (hop : s.op = opcWriteByte) (hpc : s.pc = .x0) (hen : s.enable = true) (hbus : s.busState = .owner)
      (hphase : s.phase = .none) (hdir : s.dir = .write)
  | written (hop : s.op = opcWriteByte) (hpc : s.pc = .x1 ∨ s.pc = .x2 ∨ s.pc = .ready)
  | stopping (hop : s.op = opcStop) (harg : s.arg = 0) (hpc : s.pc = .p0) (hen : s.enable = true)
      (hbus : s.busState = .owner) (hphase : s.phase = .none)
  | stopped (hop : s.op = opcStop) (harg : s.arg = 0) (hpc : s.pc = .p1 ∨ s.pc = .p2 ∨ s.pc = .ready)
  | waiting (hop : s.op = opcReadByteAck ∨ s.op = opcReadByteNak) (harg : s.arg = 0) (hpc : s.pc = .a0)
      (hen : s.enable = true) (hbus : s.busState = .owner) (hdir : s.dir = .read)
      (hphase : s.phase = .none ∨ (s.phase = .rx ∧ s.rif = false))
  | reading (hop : s.op = opcReadByteAck ∨ s.op = opcReadByteNak) (harg : s.arg = 0) (hpc : s.pc = .a1 ∨ s.pc = .a2)
      (hen : s.enable = true) (hbus : s.busState = .owner) (hdir : s.dir = .read) (hphase : s.phase = .none)
      (hif : s.rif = true)
  | read (hop : s.op = opcReadByteAck ∨ s.op = opcReadByteNak) (harg : s.arg = 0) (hpc : s.pc = .a3 ∨ s.pc = .ready)

/-- `SEQ`'s turn completes inside the window. -/
theorem InsideWindow.seq {s : State} (h : InsideWindow s) : ∃ t, seqTurn s = .next t ∧ InsideWindow t := by
  cases h with
  | writing hop hpc hen hbus hphase hdir =>
    exact ⟨_, (SeqStep.write hop (.send hpc hen hbus hphase hdir)).turn, .written hop (.inl rfl)⟩
  | written hop hpc =>
    by_cases hready : s.pc = .ready
    · exact ⟨s, seqTurn_of_ready hready, .written hop hpc⟩
    · obtain ⟨t, ht⟩ := WriteStep.exists_step (s := s) (by tauto) fun h => by simp [h] at hpc
      have hstep := SeqStep.write hop ht
      have hnext := hstep.controlFlow.1
      refine ⟨t, hstep.turn, .written (hstep.latches.1.trans hop) ?_⟩
      rcases hpc with h | h | h <;> simp [h, MicroPc.successors] at hnext hready <;> tauto
  | stopping hop harg hpc hen hbus hphase =>
    exact ⟨_, (SeqStep.stop hop harg (.stop hpc hen hbus hphase)).turn, .stopped hop harg (.inl rfl)⟩
  | stopped hop harg hpc =>
    by_cases hready : s.pc = .ready
    · exact ⟨s, seqTurn_of_ready hready, .stopped hop harg hpc⟩
    · obtain ⟨t, ht⟩ := StopStep.exists_step (s := s) (by tauto) fun h => by simp [h] at hpc
      have hstep := SeqStep.stop hop harg ht
      have hnext := hstep.controlFlow.1
      refine ⟨t, hstep.turn, .stopped (hstep.latches.1.trans hop) (hstep.latches.2.trans harg) ?_⟩
      rcases hpc with h | h | h <;> simp [h, MicroPc.successors] at hnext hready <;> tauto
  | waiting hop harg hpc hen hbus hdir hphase =>
    cases hif : s.rif with
    | true =>
      have hnone : s.phase = .none := hphase.resolve_right fun h => by simp [hif] at h
      exact ⟨_, (SeqStep.read hop harg (.polled hpc hif)).turn, .reading hop harg (.inl rfl) hen hbus hdir hnone hif⟩
    | false => exact ⟨_, (SeqStep.read hop harg (.waits hpc hif)).turn, .waiting hop harg rfl hen hbus hdir hphase⟩
  | reading hop harg hpc hen hbus hdir hphase hif =>
    rcases hpc with hpc | hpc
    · exact ⟨_, (SeqStep.read hop harg (.capture hpc)).turn, .reading hop harg (.inr rfl) hen hbus hdir hphase hif⟩
    · obtain ⟨t, ht⟩ := ReadStep.exists_step (s := s) (by tauto) fun _ _ => ⟨hbus, hphase, hdir, hif⟩
      have hstep := SeqStep.read hop harg ht
      have hnext := hstep.controlFlow.1
      refine ⟨t, hstep.turn, .read (by rwa [hstep.latches.1]) (hstep.latches.2.trans harg) (.inl ?_)⟩
      simpa [hpc, MicroPc.successors] using hnext
  | read hop harg hpc =>
    rcases hpc with hpc | hpc
    · exact ⟨_, (SeqStep.read hop harg (.answer hpc)).turn, .read hop harg (.inr rfl)⟩
    · exact ⟨s, seqTurn_of_ready hpc, .read hop harg (.inr hpc)⟩

/-- A turn that leaves the sequencer, and the window where there is one, leaves the operation inside; a receive phase
still posted is left to the turn. -/
theorem InsideWindow.of_sameOutsideBus {Q : Prop} {s t : State} (f : SameOutsideBus s t) (h : InsideWindow s)
    (hkeep : s.busState = .owner → s.phase = .none → t = s)
    (hrx : (s.op = opcReadByteAck ∨ s.op = opcReadByteNak) → s.arg = 0 → s.pc = .a0 → s.enable = true →
      s.busState = .owner → s.dir = .read → s.phase = .rx → s.rif = false → InsideWindow t ∨ Q) :
    InsideWindow t ∨ Q := by
  have hsame : s.busState = .owner → s.phase = .none → InsideWindow t ∨ Q := fun hbus hphase =>
    .inl ((hkeep hbus hphase).symm ▸ h)
  cases h with
  | writing _ _ _ hbus hphase | stopping _ _ _ _ hbus hphase | reading _ _ _ _ hbus _ hphase => exact hsame hbus hphase
  | written hop hpc => exact .inl (.written (f.op.trans hop) (by rwa [f.pc]))
  | stopped hop harg hpc => exact .inl (.stopped (f.op.trans hop) (f.arg.trans harg) (by rwa [f.pc]))
  | waiting hop harg hpc hen hbus hdir hphase =>
    rcases hphase with hphase | ⟨hphase, hif⟩
    · exact hsame hbus hphase
    · exact hrx hop harg hpc hen hbus hdir hphase hif
  | read hop harg hpc => exact .inl (.read (by rwa [f.op]) (f.arg.trans harg) (by rwa [f.pc]))

/-- The receive phase posted before the read brings its byte, or an error that leaves the read starved (R114, R168). -/
theorem InsideWindow.of_rx {d : Draws} {s t : State} (he : EngineEffect d s t)
    (hop : s.op = opcReadByteAck ∨ s.op = opcReadByteNak) (harg : s.arg = 0) (hpc : s.pc = .a0) (hen : s.enable = true)
    (hbus : s.busState = .owner) (hdir : s.dir = .read) (hphase : s.phase = .rx) (hif : s.rif = false) :
    InsideWindow t ∨ Starved t.rsp t := by
  cases he with
  | waits => exact .inl (.waiting hop harg hpc hen hbus hdir (.inr ⟨hphase, hif⟩))
  | received => exact .inl (.waiting hop harg hpc hen hbus hdir (.inl rfl))
  | lost => exact .inr ⟨hpc, hop, harg, hif, rfl, rfl⟩
  | addressedWrite h | addressedRead h | refused h | sent h | stopped h => cases hphase.symm.trans h

/-- Every internal turn leaves an operation inside its window there, or a read starved. -/
theorem InsideWindow.turn {m : Move} {s : State} (hm : isInternal m = true) (h : InsideWindow s) :
    ∃ t, runMove m s = .next t ∧ (InsideWindow t ∨ Starved t.rsp t) := by
  refine internal_turn hm (fun _ => h.seq.imp fun _ => And.imp_right .inl) (fun d t _ he => ?engine) (fun t he => ?env)
  case engine =>
    exact h.of_sameOutsideBus he.sameOutsideBus (fun _ hphase => he.eq_of_phase_none hphase) (InsideWindow.of_rx he)
  case env =>
    have he := env_of_move he
    exact h.of_sameOutsideBus (env_sameOutsideBus he) (fun hbus _ => env_eq_of_owner hbus he)
      fun _ _ _ _ hbus _ _ _ => .inl (env_eq_of_owner hbus he ▸ h)

/-- Settles O51: no internal turn leads out of the window. -/
theorem noFaultInsideWindow : Obligations.NoFaultInsideWindow := by
  unfold Obligations.NoFaultInsideWindow
  intro ms s hms hen hbus hstart
  have hturn : ∀ m s, isInternal m = true → (InsideWindow s ∨ Starved s.rsp s) →
      ∃ t, runMove m s = .next t ∧ (InsideWindow t ∨ Starved t.rsp t) := by
    rintro m s hm (h | h)
    · exact h.turn hm
    · exact (Starved.turn hm h).imp fun t => And.imp_right fun h : Starved s.rsp t => .inr { h with rsp := rfl }
  have hinside : InsideWindow s := by
    rcases hstart with ⟨hpc, hop, hphase, hdir⟩ | ⟨hpc, hop, harg, hphase⟩ | ⟨hpc, hop, harg, hdir, hphase⟩
    · exact .writing hop hpc hen hbus hphase hdir
    · exact .stopping hop harg hpc hen hbus hphase
    · exact .waiting hop harg hpc hen hbus hdir hphase
  obtain ⟨t, ht, -⟩ := runMoves_invariant hturn hms (.inl hinside)
  exact ⟨t, ht⟩

end Sys2Proof.Machine
end

section
/-! Before `init` every other operation spins in its first poll (R80, R168, R182). -/

namespace Sys2Proof.Machine

/-- Where the operation `c` of a disabled controller stands after `n` turns of `SEQ`. -/
def spinsAt (c : Byte) (n : Nat) (l : MicroPc) : Prop :=
  ((c = opcStart ∨ c = opcRepeatedStart ∨ c = opcStartWithRetry) ∧
    ((l = .s0 ∧ n = 0) ∨ (l = .s1 ∧ n = 1) ∨ (l = .s2 ∧ 2 ≤ n))) ∨
  (c = opcStop ∧ ((l = .p0 ∧ n = 0) ∨ (l = .p1 ∧ 1 ≤ n))) ∨
  (c = opcWriteByte ∧ ((l = .x0 ∧ n = 0) ∨ (l = .x1 ∧ 1 ≤ n))) ∨
  ((c = opcReadByteAck ∨ c = opcReadByteNak) ∧ l = .a0)

/-- The operation `c` on a disabled controller whose status reads zero, after `n` turns of `SEQ`. -/
structure Spins (c : Byte) (n : Nat) (s : State) : Prop where
  op : s.op = c
  arg : c = opcStop ∨ c = opcReadByteAck ∨ c = opcReadByteNak → s.arg = 0
  enable : s.enable = false
  rif : s.rif = false
  wif : s.wif = false
  busState : s.busState = .unknown
  phase : s.phase = .none
  rsp : s.rsp = none
  label : spinsAt c n s.pc

/-- `SEQ`'s turn: a trigger is stored or dropped (R80), a poll fails. -/
theorem Spins.seq {c : Byte} {n : Nat} {s : State} (h : Spins c n s) :
    ∃ t, seqTurn s = .next t ∧ Spins c (n + 1) t := by
  have hop := h.op
  rcases h.label with ⟨hc, ⟨hpc, rfl⟩ | ⟨hpc, rfl⟩ | ⟨hpc, hn⟩⟩ | ⟨hc, ⟨hpc, rfl⟩ | ⟨hpc, hn⟩⟩ |
    ⟨hc, ⟨hpc, rfl⟩ | ⟨hpc, hn⟩⟩ | ⟨hc, hpc⟩
  · exact ⟨_, (SeqStep.start (by rwa [hop]) (.flushDisabled hpc h.enable)).turn,
      { h with label := .inl ⟨hc, .inr (.inl ⟨rfl, rfl⟩)⟩ }⟩
  · exact ⟨_, (SeqStep.start (by rwa [hop]) (.addressDisabled hpc h.enable)).turn,
      { h with label := .inl ⟨hc, .inr (.inr ⟨rfl, le_rfl⟩)⟩ }⟩
  · exact ⟨_, (SeqStep.start (by rwa [hop]) (.waits hpc (by simp [h.rif, h.wif]))).turn,
      { h with label := .inl ⟨hc, .inr (.inr ⟨rfl, by omega⟩)⟩ }⟩
  · exact ⟨_, (SeqStep.stop (hop.trans hc) (h.arg (.inl hc)) (.stopDisabled hpc h.enable)).turn,
      { h with label := .inr (.inl ⟨hc, .inr ⟨rfl, le_rfl⟩⟩) }⟩
  · exact ⟨_, (SeqStep.stop (hop.trans hc) (h.arg (.inl hc)) (.waits hpc (by simp [h.busState]))).turn,
      { h with label := .inr (.inl ⟨hc, .inr ⟨rfl, by omega⟩⟩) }⟩
  · exact ⟨_, (SeqStep.write (hop.trans hc) (.sendDisabled hpc h.enable)).turn,
      { h with label := .inr (.inr (.inl ⟨hc, .inr ⟨rfl, le_rfl⟩⟩)) }⟩
  · exact ⟨_, (SeqStep.write (hop.trans hc) (.waits hpc h.wif)).turn,
      { h with label := .inr (.inr (.inl ⟨hc, .inr ⟨rfl, by omega⟩⟩)) }⟩
  · exact ⟨_, (SeqStep.read (by rwa [hop]) (h.arg (.inr hc)) (.waits hpc h.rif)).turn,
      { h with label := .inr (.inr (.inr ⟨hc, rfl⟩)) }⟩

/-- Every internal turn leaves the operation spinning; only `SEQ`'s counts. -/
theorem Spins.turn {c : Byte} {ms : List Move} {m : Move} {s : State} (hm : isInternal m = true)
    (h : Spins c (ms.count .seq) s) : ∃ t, runMove m s = .next t ∧ Spins c ((ms ++ [m]).count .seq) t := by
  refine internal_turn hm (fun hseq => ?seq) (fun d t hengine he => ?engine) (fun t he => ?env)
  case seq => simpa [hseq] using h.seq
  case engine => simpa [hengine, he.eq_of_phase_none h.phase] using h
  case env =>
    have hsame : t = s := by
      rcases he with ⟨-, rfl⟩ | ⟨-, rfl⟩
      exacts [envFreeStep_of_not_busy (by simp [h.busState]), envTakeStep_of_not_idle (by simp [h.busState])]
    rcases he with ⟨rfl, -⟩ | ⟨rfl, -⟩ <;> simpa [hsame] using h

/-- What `spinsAt` says label by label. -/
theorem spinsAt_labels {c : Byte} {n : Nat} {l : MicroPc} (h : spinsAt c n l) :
    (c = 0x01 ∨ c = 0x02 ∨ c = 0x03 → l ∈ [MicroPc.s0, .s1, .s2]) ∧ (c = 0x04 → l ∈ [MicroPc.p0, .p1]) ∧
    (c = 0x05 → l ∈ [MicroPc.x0, .x1]) ∧ (c = 0x06 ∨ c = 0x07 → l = .a0) ∧
    (2 ≤ n → l = .s2 ∨ l = .p1 ∨ l = .x1 ∨ l = .a0) := by
  rcases h with ⟨hc, hl⟩ | ⟨rfl, hl⟩ | ⟨rfl, hl⟩ | ⟨hc, rfl⟩
  · rcases hc with rfl | rfl | rfl <;> rcases hl with ⟨rfl, rfl⟩ | ⟨rfl, rfl⟩ | ⟨rfl, hn⟩ <;>
      simp [opcStart, opcRepeatedStart, opcStartWithRetry]
  · rcases hl with ⟨rfl, rfl⟩ | ⟨rfl, hn⟩ <;> simp [opcStop]
  · rcases hl with ⟨rfl, rfl⟩ | ⟨rfl, hn⟩ <;> simp [opcWriteByte]
  · rcases hc with rfl | rfl <;> simp [opcReadByteAck, opcReadByteNak]

/-- An admitted word without an operand has a zero there (R63). -/
theorem operand_eq_zero {c d : Byte} (hadm : reservedRequest (reqWord c d) = false)
    (hc : c = opcStop ∨ c = opcReadByteAck ∨ c = opcReadByteNak) : d = 0 := by
  rcases hc with rfl | rfl | rfl <;>
    simpa [reservedRequest, opcStop, opcReadByteAck, opcReadByteNak] using hadm

/-- An accepted operation other than `init` spins from its entry label. -/
theorem Spins.of_accept {w : Word16} {s : State} (hadm : reservedRequest w = false) (hinit : opcOf w ≠ opcInit)
    (hen : s.enable = false) (hst : s.statusByte = 0) (hphase : s.phase = .none) :
    Spins (opcOf w) 0 (s.accept (opcOf w) (opdOf w) (entryLabel (opcOf w))) := by
  obtain ⟨hrif, hwif, -, -, -, hbus⟩ := State.statusByte_eq_zero_iff.mp hst
  rw [← reqWord_opcOf_opdOf w] at hadm
  refine ⟨rfl, operand_eq_zero hadm, hen, hrif, hwif, hbus, hphase, rfl, ?label⟩
  case label =>
    rw [State.accept_pc]
    rcases reservedRequest_reqWord_eq_false_iff.mp hadm with
      ⟨hop, -⟩ | hop | hop | ⟨hop, -⟩ | hop | ⟨hop, -⟩
    · exact absurd hop hinit
    · rcases hop with hop | hop <;> rw [hop]
      exacts [.inl ⟨.inl rfl, .inl ⟨rfl, rfl⟩⟩, .inl ⟨.inr (.inl rfl), .inl ⟨rfl, rfl⟩⟩]
    · rw [hop]; exact .inl ⟨.inr (.inr rfl), .inl ⟨rfl, rfl⟩⟩
    · rw [hop]; exact .inr (.inl ⟨rfl, .inl ⟨rfl, rfl⟩⟩)
    · rw [hop]; exact .inr (.inr (.inl ⟨rfl, .inl ⟨rfl, rfl⟩⟩))
    · rcases hop with hop | hop <;> rw [hop]
      exacts [.inr (.inr (.inr ⟨.inl rfl, rfl⟩)), .inr (.inr (.inr ⟨.inr rfl, rfl⟩))]

/-- Settles O52: no internal turn leads past the first poll. -/
theorem disabledNeverAnswers : Obligations.DisabledNeverAnswers := by
  unfold Obligations.DisabledNeverAnswers
  intro w ms s hadm hinit hms hpc hen hst hphase
  have hstart := Spins.of_accept hadm hinit hen hst hphase
  obtain ⟨t, ht, h⟩ := runMoves_history (P := fun ms => Spins (opcOf w) (ms.count .seq)) (fun _ _ _ => Spins.turn) ms
    (ms := []) hms hstart
  exact ⟨t, (runMoves_host hpc hadm).trans ht, h.rsp, spinsAt_labels h.label⟩

end Sys2Proof.Machine
end

section
/-! `init` under every interleaving (R130). -/

namespace Sys2Proof.Machine

/-- The label of `init` after `n` steps of `SEQ` (R130). -/
def initLabel : Nat → MicroPc
  | 0 => .i0
  | 1 => .i1
  | 2 => .i2
  | 3 => .i3
  | _ => .ready

/-- The three accesses of `init`, in order (R130). -/
def initAccesses : List RegEntry := [.w .baud Config.baudDiv, .w .ctrl 0x01, .w .status 0x01]

/-- `t` is `init` accepted from `s`, after `n` steps of `SEQ`; `took` says that another master may have taken the bus. -/
structure InitProgress (s : State) (n : Nat) (took : Prop) (t : State) : Prop where
  op : t.op = opcInit
  arg : t.arg = 0
  addr : t.addr = s.addr
  pc : t.pc = initLabel n
  rsp : t.rsp = if n < 4 then none else some 0x0000
  regLog : t.regLog = s.regLog ++ initAccesses.take n
  baud : 1 ≤ n → t.baud = Config.baudDiv
  ctrl : 2 ≤ n → t.rien = false ∧ t.wien = false ∧ t.enable = true
  phase : 3 ≤ n → t.phase = .none
  bus : 3 ≤ n → t.busState = .idle ∨ (t.busState = .busy ∧ took)

/-- One step of `SEQ` further (R130). -/
theorem InitProgress.seq {s t : State} {n : Nat} {took : Prop} (h : InitProgress s n took t) :
    ∃ u, seqTurn t = .next u ∧ InitProgress s (n + 1) took u := by
  have step : ∀ {u}, InitStep t u → seqTurn t = .next u := fun hu => (SeqStep.init h.op h.arg hu).turn
  match n, h with
  | 0, h => exact ⟨_, step (.divisor h.pc), { h with
      pc := rfl, rsp := h.rsp, regLog := by simp [h.regLog, initAccesses], baud := fun _ => rfl, ctrl := by omega,
      phase := by omega, bus := by omega }⟩
  | 1, h => exact ⟨_, step (.enable h.pc), { h with
      pc := rfl, rsp := h.rsp, regLog := by simp [h.regLog, initAccesses], baud := fun _ => h.baud le_rfl,
      ctrl := fun _ => ⟨rfl, rfl, rfl⟩, phase := by omega, bus := by omega }⟩
  | 2, h => exact ⟨_, step (.forceIdle h.pc), { h with
      pc := rfl, rsp := h.rsp, regLog := by simp [h.regLog, initAccesses], baud := fun _ => h.baud (by omega),
      ctrl := fun _ => h.ctrl le_rfl, phase := fun _ => rfl, bus := fun _ => .inl rfl }⟩
  | 3, h => exact ⟨_, step (.answer h.pc), { h with
      pc := rfl, rsp := rfl, regLog := by simp [h.regLog, initAccesses], baud := fun _ => h.baud (by omega),
      ctrl := fun _ => h.ctrl (by omega), phase := fun _ => h.phase le_rfl, bus := fun _ => h.bus le_rfl }⟩
  | n + 4, h => exact ⟨t, seqTurn_of_ready h.pc, { h with
      pc := h.pc, rsp := h.rsp.trans (by rw [if_neg (by omega), if_neg (by omega)]),
      regLog := by simp [h.regLog, initAccesses], baud := fun _ => h.baud (by omega),
      ctrl := fun _ => h.ctrl (by omega), phase := fun _ => h.phase (by omega), bus := fun _ => h.bus (by omega) }⟩

/-- A turn of `CTL` or `ENV` that leaves what `init` has established of the bus leaves its progress. -/
theorem InitProgress.of_sameOutsideBus {s t u : State} {n : Nat} {took took' : Prop} (h : InitProgress s n took t)
    (f : SameOutsideBus t u) (hphase : 3 ≤ n → u.phase = .none)
    (hbus : 3 ≤ n → u.busState = .idle ∨ (u.busState = .busy ∧ took')) : InitProgress s n took' u where
  op := f.op.trans h.op
  arg := f.arg.trans h.arg
  addr := f.addr.trans h.addr
  pc := f.pc.trans h.pc
  rsp := f.rsp.trans h.rsp
  regLog := f.regLog.trans h.regLog
  baud hn := f.baud.trans (h.baud hn)
  ctrl hn := by rw [f.rien, f.wien, f.enable]; exact h.ctrl hn
  phase := hphase
  bus := hbus

/-- `E-FREE` and `E-TAKE` keep a bus idle or busy; from idle to busy it is `E-TAKE` (R117, R118). -/
theorem env_idle_or_busy {s t : State} {took : Prop} (hbus : s.busState = .idle ∨ (s.busState = .busy ∧ took)) :
    (t = envFreeStep s → t.busState = .idle ∨ (t.busState = .busy ∧ took)) ∧
    (t = envTakeStep s → t.busState = .busy) := by
  constructor
  · rintro rfl
    rcases hbus with hbus | ⟨hbus, -⟩
    · rw [envFreeStep_of_not_busy (by simp [hbus])]; exact .inl hbus
    · rw [envFreeStep_of_busy hbus]; exact .inl rfl
  · rintro rfl
    rcases hbus with hbus | ⟨hbus, -⟩
    · rw [envTakeStep_of_idle hbus]
    · rw [envTakeStep_of_not_idle (by simp [hbus])]; exact hbus

/-- Every internal turn carries `init` on, by one step where it is `SEQ`'s. -/
theorem InitProgress.turn {s t : State} {ms : List Move} {m : Move} (hm : isInternal m = true)
    (h : InitProgress s (ms.count .seq) (.envTake ∈ ms) t) : ∃ u, runMove m t = .next u ∧
      InitProgress s ((ms ++ [m]).count .seq) (.envTake ∈ ms ++ [m]) u := by
  have hmem : ∀ {P : Prop} {b : BusState}, (P ∨ (b = .busy ∧ Move.envTake ∈ ms)) →
      (P ∨ (b = .busy ∧ Move.envTake ∈ ms ++ [m])) := fun h => h.imp_right (And.imp_right (List.mem_append_left _))
  refine internal_turn hm (fun hseq => ?seq) (fun d u hengine he => ?engine) (fun u he => ?env)
  case seq =>
    obtain ⟨u, hu, hnext⟩ := h.seq
    subst hseq
    refine ⟨u, hu, ?_⟩
    rw [List.count_append, List.count_singleton_self]
    exact { hnext with bus := fun hn => hmem (hnext.bus hn) }
  case engine =>
    have hcount : (ms ++ [m]).count Move.seq = ms.count .seq := by simp [hengine]
    have hsame : 3 ≤ ms.count Move.seq → u = t := fun hn => he.eq_of_phase_none (h.phase hn)
    rw [hcount]
    exact h.of_sameOutsideBus he.sameOutsideBus (fun hn => hsame hn ▸ h.phase hn) fun hn => hsame hn ▸ hmem (h.bus hn)
  case env =>
    have hcount : (ms ++ [m]).count Move.seq = ms.count .seq := by
      rcases he with ⟨rfl, -⟩ | ⟨rfl, -⟩ <;> simp
    obtain ⟨b, hb⟩ := env_eq_set_busState (env_of_move he)
    rw [hcount]
    refine h.of_sameOutsideBus (env_sameOutsideBus (env_of_move he)) (fun hn => by rw [hb]; exact h.phase hn)
      fun hn => ?_
    obtain ⟨hfree, htake⟩ := env_idle_or_busy (t := u) (h.bus hn)
    rcases he with ⟨-, he⟩ | ⟨rfl, he⟩
    · exact hmem (hfree he)
    · exact .inr ⟨htake he, by simp⟩

/-- Settles O36: the progress of `init` after as many steps as the interleaving has turns of `SEQ`; without other turns,
the four steps one after another. -/
theorem initRun : Obligations.InitRun := by
  unfold Obligations.InitRun
  refine ⟨fun ms s hms hpc hcount => ?interleaved, fun s hpc => ?alone⟩
  case interleaved =>
    have hstart : InitProgress s 0 (Move.envTake ∈ []) (s.accept (opcOf 0) (opdOf 0) (entryLabel (opcOf 0))) := {
      op := rfl, arg := rfl, addr := rfl, pc := rfl, rsp := rfl, regLog := (List.append_nil _).symm,
      baud := by omega, ctrl := by omega, phase := by omega, bus := by omega }
    obtain ⟨t, ht, h⟩ := runMoves_history
      (P := fun ms : List Move => InitProgress s (ms.count .seq) (Move.envTake ∈ ms)) (fun _ _ _ => InitProgress.turn)
      ms (ms := []) hms hstart
    rw [List.nil_append] at h
    refine ⟨t, (runMoves_host hpc rfl).trans ht, fun hn => ?running, fun hn => ?answered⟩
    case running =>
      refine ⟨?_, h.rsp.trans (if_pos hn)⟩
      rw [h.pc]
      interval_cases ms.count Move.seq <;> decide
    case answered =>
      rw [hn] at h
      obtain ⟨hrien, hwien, hen⟩ := h.ctrl (by omega)
      exact ⟨h.pc, h.rsp, h.baud (by omega), by rw [State.ctrlByte, hrien, hwien, hen]; decide, h.phase (by omega),
        h.bus (by omega), h.addr, h.regLog⟩
  case alone =>
    refine run_host (c := opcInit) (b := 0) hpc rfl (run_seq (.init rfl rfl (.divisor rfl))
      (run_seq (.init rfl rfl (.enable rfl)) (run_seq (.init rfl rfl (.forceIdle rfl))
        (run_seq (.init rfl rfl (.answer rfl)) ?_))))
    simp [runMoves]
    rfl

end Sys2Proof.Machine
end

section
/-! Whole operations under a named interleaving: the reads, `stop` and `writeByte` (R145, R150, R155, R156). -/

namespace Sys2Proof.Machine

/-- Settles O41: poll, capture, command, answer. -/
theorem readRun : Obligations.ReadRun := by
  unfold Obligations.ReadRun
  intro s hpc hen hbus hphase hdir hif
  constructor
  · refine run_host (c := opcReadByteAck) (b := 0) hpc rfl (run_seq (.read (.inl rfl) rfl (.polled rfl hif))
      (run_seq (.read (.inl rfl) rfl (.capture rfl))
        (run_seq (.read (.inl rfl) rfl (.recvAck rfl rfl hen hbus hphase hdir hif))
          (run_seq (.read (.inl rfl) rfl (.answer rfl)) ?_))))
    simp [runMoves]
    exact ⟨rfl, rfl⟩
  · have hnak : opcReadByteNak ≠ opcReadByteAck := by decide
    refine run_host (c := opcReadByteNak) (b := 0) hpc rfl (run_seq (.read (.inr rfl) rfl (.polled rfl hif))
      (run_seq (.read (.inr rfl) rfl (.capture rfl))
        (run_seq (.read (.inr rfl) rfl (.recvNak rfl hnak hen hbus hphase hdir hif))
          (run_seq (.read (.inr rfl) rfl (.answer rfl)) ?_))))
    simp [runMoves, hphase]
    exact ⟨rfl, rfl⟩

/-- Settles O39: the stop phase ends in idle, before the first poll or between two. -/
theorem stopRun : Obligations.StopRun := by
  unfold Obligations.StopRun
  intro d s hpc hen hbus hphase
  constructor
  · refine ⟨_, run_host (c := opcStop) (b := 0) hpc rfl (run_seq (.stop rfl rfl (.stop rfl hen hbus hphase))
      (run_stopPhase hen rfl (run_seq (.stop rfl rfl (.polled rfl rfl)) (run_seq (.stop rfl rfl (.answer rfl)) rfl)))), ?_⟩
    simp [gStop]
  · refine ⟨_, run_host (c := opcStop) (b := 0) hpc rfl (run_seq (.stop rfl rfl (.stop rfl hen hbus hphase))
      (run_seq (.stop rfl rfl (.waits rfl (by simp [hbus]))) (run_stopPhase hen rfl
        (run_seq (.stop rfl rfl (.polled rfl rfl)) (run_seq (.stop rfl rfl (.answer rfl)) rfl))))), ?_⟩
    simp [gStop]

/-- `writeByte b` with its byte posted: accepted from `s`, then step `X0` (R150). -/
def State.posted (s : State) (b : Byte) : State :=
  { s with op := opcWriteByte, arg := b, rsp := none, data := b, rif := false, wif := false, phase := .tx b,
           regLog := s.regLog ++ [.w .data b], pc := .x1 }

/-- A transmit phase ends with the write flag set, and the bus as it was unless in an error (R113, R116). -/
theorem EngineEffect.performed_tx {d : Draws} {s t : State} {b : Byte} (h : EngineEffect d s t)
    (hphase : s.phase = .tx b) (hen : s.enable = true) :
    t.phase = .none ∧ t.wif = true ∧ (t.busState = s.busState ∨ d.ans = .arbLost ∨ d.ans = .busErr) := by
  cases h with
  | waits hdis => cases (State.engineEnabled_of_tx hen hphase).symm.trans hdis
  | sent => exact ⟨rfl, rfl, .inl rfl⟩
  | lost _ hfails =>
    rcases hfails with ⟨a, h, -⟩ | ⟨c, -, herr⟩ | ⟨h, -⟩
    · cases hphase.symm.trans h
    · exact ⟨rfl, rfl, .inr herr⟩
    · cases hphase.symm.trans h
  | addressedWrite h | addressedRead h | refused h | received h | stopped h => cases hphase.symm.trans h

/-- The run of `writeByte` with its phase performed before the first poll: the answer is by `RXACK` alone (R150). -/
theorem runMoves_writeByte {s : State} (b : Byte) (d : Draws) (hpc : s.pc = .ready) (hen : s.enable = true)
    (hbus : s.busState = .owner) (hphase : s.phase = .none) (hdir : s.dir = .write) :
    runMoves [.host (0x05#8 ++ b), .seq, .engine d, .seq, .seq] s = .next { (engineStep d (s.posted b)).polled .x2 with
      rsp := some (if (engineStep d (s.posted b)).rxack = true then 0x0200 else 0x0000), pc := .ready } := by
  have hadm : reservedRequest (reqWord opcWriteByte b) = false := reqWord_admitted b (by simp)
  obtain ⟨-, hwif, -⟩ := (engineStep_effect d (s.posted b)).performed_tx (b := b) rfl hen
  have f := (engineStep_effect d (s.posted b)).sameOutsideBus
  have hlast : runMoves [.seq, .seq] (engineStep d (s.posted b)) = .next _ :=
    run_seq (.write f.op (.polled f.pc hwif)) (run_seq (.write f.op (.answer rfl)) rfl)
  refine run_host (c := opcWriteByte) hpc hadm (run_seq (.write rfl (.send rfl hen hbus hphase hdir))
    (run_engine rfl (hlast.trans ?_)))
  simp

/-- Settles O40: the run above, with the transmit phase's outcome for each answer. -/
theorem writeByteRun : Obligations.WriteByteRun := by
  unfold Obligations.WriteByteRun
  intro b d s hpc hen hbus hphase hdir
  obtain ⟨-, hack, hnak, hlost, herr⟩ := transmitPhase b d (s.posted b) hen rfl
  refine ⟨_, runMoves_writeByte b d hpc hen hbus hphase hdir, rfl, ?_⟩
  cases hans : d.ans with
  | ack => rw [hack hans]; simp [State.posted, hbus]
  | nak => rw [hnak hans]; simp [State.posted, hbus]
  | arbLost => rw [hlost hans]; simp [State.posted]
  | busErr => rw [herr hans]; simp [State.posted]; cases d.busAfterErr <;> simp

end Sys2Proof.Machine
end

section
/-! Attempts of the start family: the two writes, the address phase, the poll, the decision (R135 to R137). -/

namespace Sys2Proof.Machine

/-! ## A run and the draws the engine asks for in it -/

/-- The turns `ms` lead from `s` to `t`, and the engine asks for the draws `l` in them (R120). -/
structure Runs (ms : List Move) (s t : State) (l : List Draw) : Prop where
  run : runMoves ms s = .next t
  draws : drawsTaken ms s = l

section
variable {ms ns : List Move} {s t u : State} {k l : List Draw}

theorem Runs.nil (s : State) : Runs [] s s [] := ⟨rfl, rfl⟩

theorem Runs.cons {m : Move} (hturn : runMove m s = .next t) (h : Runs ms t u l) :
    Runs (m :: ms) s u (moveDraws m s ++ l) :=
  ⟨(runMoves_cons_of_next hturn).trans h.run, by simp [drawsTaken, hturn, h.draws]⟩

theorem Runs.seq (hstep : SeqStep s t) (h : Runs ms t u l) : Runs (.seq :: ms) s u l := h.cons (m := .seq) hstep.turn

theorem Runs.engine {d : Draws} (h : Runs ms (engineStep d s) u l) : Runs (.engine d :: ms) s u (drawsAsked d s ++ l) :=
  h.cons (m := .engine d) rfl

theorem Runs.append (h : Runs ms s t k) (h' : Runs ns t u l) : Runs (ms ++ ns) s u (k ++ l) :=
  ⟨by rw [runMoves_append, h.run]; exact h'.run, by rw [drawsTaken_append h.run, h.draws, h'.draws]⟩

end

/-! ## An attempt up to its decision -/

/-- An attempt's address posted: the steps `S0` and `S1` on an enabled controller (R135). -/
@[simps] def State.addressed (s : State) : State :=
  { s with addr := s.arg, rif := false, wif := false, arblost := false, buserr := false, phase := .addr s.arg,
           regLog := s.regLog ++ [.w .cmd 0x08, .w .addr s.arg], pc := .s2 }

/-- An attempt with its address phase performed and polled: it stands before its decision (R135). -/
def State.attempted (s : State) (d : Draws) : State := (engineStep d s.addressed).polled .s3

/-- The outcome of an attempt's address phase, by the draws (R111). -/
theorem addressed_outcome {s : State} (hen : s.enable = true) (hbus : s.busState = .idle ∨ s.busState = .owner)
    (d : Draws) :
    (drawsAccept s.arg d ∧ Accepted (engineStep d s.addressed)) ∨
    (¬drawsAccept s.arg d ∧ Declined (engineStep d s.addressed)) :=
  (engineStep_effect d s.addressed).of_address rfl ((State.engineEnabled_addr_iff rfl).mpr ⟨hen, hbus⟩) ⟨rfl, rfl⟩

/-- An attempt leaves the latches of the sequencer to the operation. -/
theorem State.attempted_latches (s : State) (d : Draws) : (s.attempted d).op = s.op ∧ (s.attempted d).arg = s.arg ∧
    (s.attempted d).enable = s.enable ∧
    (s.attempted d).regLog = s.regLog ++ [.w .cmd 0x08, .w .addr s.arg, .r .status (s.attempted d).st] := by
  have f := (engineStep_effect d s.addressed).sameOutsideBus
  exact ⟨f.op, f.arg, f.enable, by simp [State.attempted, f.regLog]⟩

/-- The first four turns of an attempt, with the address phase before the first poll. -/
theorem Runs.attempt {ms : List Move} {s u : State} {d : Draws} {l : List Draw} (hpc : s.pc = .s0)
    (hop : s.op = opcStart ∨ s.op = opcRepeatedStart ∨ s.op = opcStartWithRetry) (hen : s.enable = true)
    (hbus : s.busState = .idle ∨ s.busState = .owner) (h : Runs ms (s.attempted d) u l) :
    Runs (.seq :: .seq :: .engine d :: .seq :: ms) s u (drawsAsked d s.addressed ++ l) := by
  have f := (engineStep_effect d s.addressed).sameOutsideBus
  have hflag : ((engineStep d s.addressed).rif || (engineStep d s.addressed).wif) = true := by
    rcases addressed_outcome hen hbus d with ⟨-, h⟩ | ⟨-, h⟩ <;> exact h.flag
  have hpoll : Runs (.engine d :: .seq :: ms) s.addressed u (drawsAsked d s.addressed ++ l) :=
    .engine (.seq (.start (by rwa [f.op]) (.polled f.pc hflag)) h)
  refine .seq (.start hop (.flush hpc hen)) (.seq (.start hop (.address rfl hen)) ?_)
  simpa [State.addressed] using hpoll

/-! ## `start` and `repeatedStart` -/

/-- The decision `S3` of an operation that answers, by the tests of the latched status (R135). -/
def State.answered (s : State) : State :=
  { s with rsp := some (if (errSet s.st || nakSet s.st) = true then 0x0100 else 0x0000), pc := .ready }

theorem StartStep.answers {s : State} (hpc : s.pc = .s3) (hop : s.op ≠ opcStartWithRetry) : StartStep s s.answered := by
  unfold State.answered
  split
  case isTrue h => exact .fails hpc h hop
  case isFalse h => exact .succeeds hpc (Bool.not_eq_true _ ▸ h)

/-- The run of `start` or `repeatedStart` with the address phase before the first poll (R135, R136). -/
theorem runMoves_start {c a : Byte} {s : State} (d : Draws) (hc : c = opcStart ∨ c = opcRepeatedStart)
    (hpc : s.pc = .ready) (hen : s.enable = true) (hbus : s.busState = .idle ∨ s.busState = .owner) :
    runMoves [.host (reqWord c a), .seq, .seq, .engine d, .seq, .seq] s =
      .next ((s.accept c a .s0).attempted d).answered := by
  have hentry : entryLabel c = .s0 := by rcases hc with rfl | rfl <;> rfl
  have hretry : c ≠ opcStartWithRetry := by rcases hc with rfl | rfl <;> decide
  obtain ⟨hop, -⟩ := (s.accept c a .s0).attempted_latches d
  have hdecide : Runs [.seq] ((s.accept c a .s0).attempted d) ((s.accept c a .s0).attempted d).answered [] :=
    .seq (.start (by rw [hop]; tauto) (.answers rfl (by rwa [hop]))) (.nil _)
  refine run_host hpc (reqWord_admitted a (by tauto)) ?_
  rw [hentry]
  exact (Runs.attempt (s := s.accept c a .s0) rfl (by tauto) hen hbus hdecide).run

/-- The first two events of an address phase, whatever the answer (R111). -/
theorem busLog_gAddr (a : Byte) (d : Draws) (s : State) : ∃ l, (gAddr a d s).busLog =
    s.busLog ++ (if s.busState = .idle then .start else .repStart) :: .addrByte a :: l := by
  cases hans : d.ans with
  | ack => cases hdir : dirBit a with
    | false => simp [gAddr_of_ack_write hans hdir, acknowledged_eq, addressSent_eq]
    | true => cases hrx : d.rx with
      | byte b => simp [gAddr_of_ack_read hans hdir, receive_of_byte hrx, acknowledged_eq, addressSent_eq]
      | arbLost =>
        simp [gAddr_of_ack_read hans hdir, receive_of_arbLost hrx, arbLostOutcome_eq, acknowledged_eq, addressSent_eq]
      | busErr =>
        simp [gAddr_of_ack_read hans hdir, receive_of_busErr hrx, busErrOutcome_eq, acknowledged_eq, addressSent_eq]
  | nak => simp [gAddr_of_nak hans, notAcknowledged_eq, addressSent_eq]
  | arbLost => simp [gAddr_of_arbLost hans, arbLostOutcome_eq, addressSent_eq]
  | busErr => simp [gAddr_of_busErr hans, busErrOutcome_eq, addressSent_eq]

/-- Settles O37: the run above; the outcome of its address phase for each answer. -/
theorem startRun : Obligations.StartRun := by
  unfold Obligations.StartRun
  intro c a d s hc hpc hen hbus
  obtain ⟨-, -, -, hreg⟩ := (s.accept c a .s0).attempted_latches d
  have hengine := engineStep_of_addr (s := (s.accept c a .s0).addressed)
    ((State.engineEnabled_addr_iff rfl).mpr ⟨hen, hbus⟩) rfl d
  have hbusLog := busLog_gAddr a d (s.accept c a .s0).addressed
  refine ⟨_, runMoves_start d hc hpc hen hbus, rfl, by simpa [State.answered, State.attempted, hengine] using hbusLog,
    hreg, ?_⟩
  obtain ⟨-, houtcome⟩ := addressPhase a d (s.accept c a .s0).addressed rfl
  obtain ⟨hwrite, hread, hreadLost, hreadErr, hnak, hlost, herr⟩ := houtcome hen hbus
  cases hans : d.ans with
  | ack => cases hdir : a[0] with
    | false =>
      simp [State.answered, State.attempted, hwrite hans hdir, State.statusByte_eq, hdir]
      decide
    | true => cases hrx : d.rx with
      | byte b =>
        simp [State.answered, State.attempted, hread b hans hdir hrx, State.statusByte_eq, hdir]
        decide
      | arbLost => simp [State.answered, State.attempted, hreadLost hans hdir hrx]
      | busErr =>
        simp [State.answered, State.attempted, hreadErr hans hdir hrx]
        cases d.busAfterErr <;> simp
  | nak =>
    simp [State.answered, State.attempted, hnak hans, State.statusByte_eq]
    decide
  | arbLost => simp [State.answered, State.attempted, hlost hans]
  | busErr =>
    simp [State.answered, State.attempted, herr hans]
    cases d.busAfterErr <;> simp

end Sys2Proof.Machine
end

section
/-! `startWithRetry` against `N` NAKs and an ACK (R137, vector V3). -/

namespace Sys2Proof.Machine

/-- `startWithRetry` to the address `a` before an attempt on an idle bus (R137). -/
structure AtAttempt (a : Byte) (s : State) : Prop where
  pc : s.pc = .s0
  op : s.op = opcStartWithRetry
  arg : s.arg = a
  enable : s.enable = true
  busState : s.busState = .idle

/-- After a failed attempt: the automatic stop performed, the wait over (R111, R137). -/
def State.restarted (s : State) : State := (gStop { s with pc := .w4 }).polled .s0

theorem State.restarted_regLog (s : State) : s.restarted.regLog = s.regLog ++ [.r .status s.restarted.st] := rfl

/-- The decision for another attempt, the automatic stop and the wait. -/
theorem Runs.restart {s : State} (hpc : s.pc = .s3) (hop : s.op = opcStartWithRetry)
    (hst : (errSet s.st || nakSet s.st) = true) (hen : s.enable = true) (hphase : s.phase = .stop) (e : Draws) :
    Runs [.seq, .engine e, .seq] s s.restarted [] := by
  have hdraws : drawsAsked e { s with pc := .w4 } = [] := by simp [drawsAsked, hphase]
  have hwait : Runs [.engine e, .seq] { s with pc := .w4 } s.restarted (drawsAsked e { s with pc := .w4 } ++ []) := by
    refine .engine ?_
    rw [engineStep_of_stop (s := { s with pc := .w4 }) hen hphase]
    exact .seq (.wait hop (.again rfl rfl)) (.nil _)
  rw [hdraws] at hwait
  exact .seq (.start (.inr (.inr hop)) (.retries hpc hst hop)) hwait

section
variable {a : Byte} {d : Draws} {s : State}

/-- What the engine asks for in an attempt (R111). -/
theorem AtAttempt.drawsAsked (h : AtAttempt a s) (d : Draws) :
    drawsAsked d s.addressed = answerDraws d (if dirBit a then receiveDraws d else []) := by
  have hon : s.addressed.engineEnabled = true := (State.engineEnabled_addr_iff rfl).mpr ⟨h.enable, .inl h.busState⟩
  simp [Machine.drawsAsked, hon, h.arg]

/-- An attempt answered by a NAK: the stop phase is posted and its events are on the bus (R111). -/
theorem AtAttempt.refused (h : AtAttempt a s) (hnak : d.ans = .nak) :
    (s.attempted d).phase = .stop ∧ (errSet (s.attempted d).st || nakSet (s.attempted d).st) = true ∧
    (s.attempted d).busLog = s.busLog ++ [.start, .addrByte a, .nakIn] := by
  obtain ⟨-, houtcome⟩ := addressPhase s.arg d s.addressed rfl
  obtain ⟨-, -, -, -, hrefused, -⟩ := houtcome h.enable (.inl h.busState)
  simp [State.attempted, hrefused hnak, h.busState, h.arg]

/-- A failed attempt: one NAK is drawn, and the next attempt stands before it on an idle bus (R137). -/
theorem AtAttempt.failed (h : AtAttempt a s) (hnak : d.ans = .nak) (e : Draws) :
    ∃ u v w, Runs (failedAttempt d e) s u [.answer .nak] ∧ AtAttempt a u ∧
      u.regLog = s.regLog ++ [.w .cmd 0x08, .w .addr a, .r .status v, .r .status w] ∧
      u.busLog = s.busLog ++ [.start, .addrByte a, .nakIn, .stop] := by
  obtain ⟨hop, harg, hen, hreg⟩ := s.attempted_latches d
  obtain ⟨hphase, hst, hbusLog⟩ := h.refused hnak
  have hrestart := Runs.restart rfl (hop.trans h.op) hst (hen.trans h.enable) hphase e
  have hrun := hrestart.attempt h.pc (.inr (.inr h.op)) h.enable (.inl h.busState)
  rw [h.drawsAsked, answerDraws, hnak] at hrun
  refine ⟨_, (s.attempted d).st, (s.attempted d).restarted.st, hrun,
    ⟨rfl, hop.trans h.op, harg.trans h.arg, hen.trans h.enable, rfl⟩, ?_, ?_⟩
  · simp [State.restarted_regLog, hreg, h.arg]
  · simp [State.restarted, gStop, hbusLog]

/-- `N` attempts answered by a NAK each (R137). -/
theorem AtAttempt.failures (naks : List (Draws × Draws)) : ∀ {s : State}, AtAttempt a s → (∀ x ∈ naks, x.1.ans = .nak) →
    ∃ u new, Runs (naks.flatMap fun x => failedAttempt x.1 x.2) s u (List.replicate naks.length (.answer .nak)) ∧
      AtAttempt a u ∧ u.regLog = s.regLog ++ new ∧ new.count (.w .addr a) = naks.length ∧
      new.count (.w .cmd 0x08) = naks.length ∧
      u.busLog = s.busLog ++ (List.replicate naks.length [BusEvent.start, .addrByte a, .nakIn, .stop]).flatten := by
  induction naks with
  | nil => exact fun {s} h _ => ⟨s, [], .nil s, h, by simp⟩
  | cons x naks ih =>
    intro s h hnaks
    obtain ⟨v, b, c, hrun, hv, hvreg, hvbus⟩ := h.failed (hnaks x List.mem_cons_self) x.2
    obtain ⟨u, new, hruns, hu, hureg, haddr, hflush, hubus⟩ := ih hv fun y hy => hnaks y (List.mem_cons_of_mem x hy)
    refine ⟨u, [.w .cmd 0x08, .w .addr a, .r .status b, .r .status c] ++ new, hrun.append hruns, hu, ?_, ?_, ?_, ?_⟩
    · simp [hureg, hvreg]
    · simp [haddr]
    · simpa using hflush
    · simp [hubus, hvbus, List.replicate_succ]

/-- The attempt that is accepted completes (R111, R137). -/
theorem AtAttempt.lastAttempt (h : AtAttempt a s) (hacc : drawsAccept a d) :
    ∃ t, Runs (lastAttempt d) s t (answerDraws d (if dirBit a then receiveDraws d else [])) ∧ t.pc = .ready ∧
      t.rsp = some 0x0000 ∧ t.busState = .owner ∧ t.phase = .none ∧
      t.regLog = s.regLog ++ [.w .cmd 0x08, .w .addr a, .r .status t.st] ∧
      t.busLog = (engineStep d s.addressed).busLog := by
  obtain ⟨hop, -, -, hreg⟩ := s.attempted_latches d
  have haccepted : Accepted (engineStep d s.addressed) :=
    ((addressed_outcome h.enable (.inl h.busState) d).resolve_right fun hdec => hdec.1 (by rwa [h.arg])).2
  obtain ⟨-, hbus, hphase, hack, harb, herr⟩ := haccepted
  have hst : (errSet (s.attempted d).st || nakSet (s.attempted d).st) = false := by
    simp [State.attempted, hack, harb, herr]
  have hrun := (Runs.seq (.start (by rw [hop, h.op]; tauto) (.succeeds rfl hst)) (.nil _)).attempt h.pc
    (.inr (.inr h.op)) h.enable (.inl h.busState)
  rw [h.drawsAsked, List.append_nil] at hrun
  exact ⟨_, hrun, rfl, rfl, hbus, hphase, by rw [← h.arg]; exact hreg, rfl⟩

/-- The bus events of the attempt that is accepted, and what is drawn in it, in each direction (R111). -/
theorem AtAttempt.events (h : AtAttempt a s) (hans : d.ans = .ack) :
    (dirBit a = false → answerDraws d (if dirBit a then receiveDraws d else []) = [.answer .ack] ∧
      (engineStep d s.addressed).busLog = s.busLog ++ [.start, .addrByte a, .ackIn]) ∧
    (∀ b, dirBit a = true → d.rx = .byte b →
      answerDraws d (if dirBit a then receiveDraws d else []) = [.answer .ack, .rx (.byte b)] ∧
      (engineStep d s.addressed).busLog = s.busLog ++ [.start, .addrByte a, .ackIn, .rxData b]) := by
  obtain ⟨-, houtcome⟩ := addressPhase s.arg d s.addressed rfl
  obtain ⟨hwrite, hread, -⟩ := houtcome h.enable (.inl h.busState)
  rw [h.arg] at hwrite hread
  refine ⟨fun hdir => ?_, fun b hdir hrx => ?_⟩
  · simp [hwrite hans hdir, answerDraws, hans, hdir, h.busState]
  · simp [hread b hans hdir hrx, answerDraws, receiveDraws, hans, hdir, hrx, h.busState]

end

/-- Settles O38: the failed attempts, one after another, then the accepted one. -/
theorem retryAttempts : Obligations.RetryAttempts := by
  unfold Obligations.RetryAttempts
  intro a naks d s hpc hop harg hen hbus hnaks hacc
  obtain ⟨u, new, hfails, hu, hureg, haddr, hflush, hubus⟩ :=
    AtAttempt.failures naks ⟨hpc, hop, harg, hen, hbus⟩ hnaks
  obtain ⟨t, hlast, htpc, hrsp, htbus, hphase, htreg, htlog⟩ := hu.lastAttempt hacc
  obtain ⟨hwrite, hread⟩ := hu.events hacc.1
  have hruns := hfails.append hlast
  refine ⟨t, new ++ [.w .cmd 0x08, .w .addr a, .r .status t.st], hruns.run, htpc, hrsp, htbus, hphase, ?_, ?_, ?_,
    fun hdir => ?_, fun b hdir hrx => ?_⟩
  · simp [htreg, hureg]
  · simp [haddr]
  · simpa using hflush
  · obtain ⟨hdraws, hbus⟩ := hwrite hdir
    exact ⟨by rw [hruns.draws, hdraws], by rw [htlog, hbus, hubus]⟩
  · obtain ⟨hdraws, hbus⟩ := hread b hdir hrx
    exact ⟨by rw [hruns.draws, hdraws], by rw [htlog, hbus, hubus]⟩

end Sys2Proof.Machine
end

section
/-! Progress under weak fairness (R119): a stage that every other turn keeps, the helpful turn carries to the next one. -/

namespace Sys2Proof.Machine

/-- The schedule's first `n` turns lead from `s` to a state of `P`. -/
def Reaches (σ : Nat → Move) (s : State) (n : Nat) (P : State → Prop) : Prop := ∃ t, runStream σ n s = .next t ∧ P t

/-- In the run of the schedule from `s`, a state of `P` is followed by one of `Q`. -/
def LeadsTo (σ : Nat → Move) (s : State) (P Q : State → Prop) : Prop :=
  ∀ n, Reaches σ s n P → ∃ m, n ≤ m ∧ Reaches σ s m Q

/-- The stage `P` is carried to `Q` by the turns `H` and kept by every other, where the turns are of `A`. -/
structure Driven (A H : Move → Prop) (P Q : State → Prop) : Prop where
  keep : ∀ {m s}, A m → ¬H m → P s → ∃ t, runMove m s = .next t ∧ P t
  help : ∀ {m s}, A m → H m → P s → ∃ t, runMove m s = .next t ∧ Q t

section
variable {σ : Nat → Move} {s : State} {A H : Move → Prop} {P Q R : State → Prop} {n : Nat}

theorem Reaches.mono (h : Reaches σ s n P) (himp : ∀ t, P t → Q t) : Reaches σ s n Q :=
  Exists.imp (fun t => And.imp_right (himp t)) h

/-- One turn further. -/
theorem Reaches.next (h : Reaches σ s n P) (hturn : ∀ t, P t → ∃ u, runMove (σ n) t = .next u ∧ Q u) :
    Reaches σ s (n + 1) Q := by
  obtain ⟨t, ht, hP⟩ := h
  obtain ⟨u, hu, hQ⟩ := hturn t hP
  exact ⟨u, runStream_succ_eq_next.mpr ⟨t, ht, hu⟩, hQ⟩

theorem LeadsTo.of_imp (himp : ∀ t, P t → Q t) : LeadsTo σ s P Q := fun n h => ⟨n, le_rfl, h.mono himp⟩

theorem LeadsTo.trans (h : LeadsTo σ s P Q) (h' : LeadsTo σ s Q R) : LeadsTo σ s P R := fun n hP => by
  obtain ⟨m, hm, hQ⟩ := h n hP
  obtain ⟨k, hk, hR⟩ := h' m hQ
  exact ⟨k, hm.trans hk, hR⟩

theorem LeadsTo.or (h : LeadsTo σ s P R) (h' : LeadsTo σ s Q R) : LeadsTo σ s (fun t => P t ∨ Q t) R := by
  rintro n ⟨t, ht, hP | hQ⟩
  exacts [h n ⟨t, ht, hP⟩, h' n ⟨t, ht, hQ⟩]

/-- A stage stands until a helpful turn comes, and it does come. -/
theorem Driven.until (h : Driven A H P Q) (hall : ∀ n, A (σ n)) (hfair : ∀ n, ∃ k, n ≤ k ∧ H (σ k))
    (hP : Reaches σ s n P) : ∃ m, n ≤ m ∧ H (σ m) ∧ Reaches σ s m P := by
  obtain ⟨k, hnk, hk⟩ := hfair n
  induction hd : k - n generalizing n with
  | zero =>
    obtain rfl : k = n := by omega
    exact ⟨k, le_rfl, hk, hP⟩
  | succ j ih =>
    by_cases hn : H (σ n)
    · exact ⟨n, le_rfl, hn, hP⟩
    · obtain ⟨m, hm, hrest⟩ := ih (hP.next fun t => h.keep (hall n) hn) (by omega) (by omega)
      exact ⟨m, by omega, hrest⟩

/-- Weak fairness of the helpful turns carries the stage on. -/
theorem Driven.leadsTo (h : Driven A H P Q) (hall : ∀ n, A (σ n)) (hfair : ∀ n, ∃ k, n ≤ k ∧ H (σ k)) :
    LeadsTo σ s P Q := fun n hP => by
  obtain ⟨m, hm, hH, hP⟩ := h.until hall hfair hP
  exact ⟨m + 1, by omega, hP.next fun t => h.help (hall m) hH⟩

theorem Driven.mono_right (h : Driven A H P Q) (himp : ∀ t, Q t → R t) : Driven A H P R where
  keep := h.keep
  help hm hH hP := (h.help hm hH hP).imp fun t => And.imp_right (himp t)

/-- Every turn keeps a stage or carries it on. -/
theorem Driven.turn (h : Driven A H P Q) (hP : ∀ t, P t → R t) (hQ : ∀ t, Q t → R t) {m : Move} (hm : A m)
    (hs : P s) : ∃ t, runMove m s = .next t ∧ R t := by
  by_cases hH : H m
  · exact (h.help hm hH hs).imp fun t => And.imp_right (hQ t)
  · exact (h.keep hm hH hs).imp fun t => And.imp_right (hP t)

end

/-! ## Stages by the agent that carries them on -/

/-- A turn of the environment's two agents (R117, R118). -/
def EnvTurn (m : Move) (s t : State) : Prop :=
  (m = .envFree ∧ t = envFreeStep s) ∨ (m = .envTake ∧ t = envTakeStep s)

/-- A turn of `CTL`. -/
def isEngine (m : Move) : Prop := ∃ d, m = .engine d

section
variable {A : Move → Prop} {P Q : State → Prop}

/-- A stage that `SEQ` carries on: the step it stands before. -/
theorem Driven.bySeq (hA : ∀ m, A m → isInternal m = true) (hseq : ∀ {s}, P s → ∃ t, SeqStep s t ∧ Q t)
    (hengine : ∀ {d s t}, A (.engine d) → P s → EngineEffect d s t → P t)
    (henv : ∀ {m s t}, A m → P s → EnvTurn m s t → P t) : Driven A (· = .seq) P Q where
  keep {m s} hm hne hP := internal_turn (hA m hm) (absurd · hne) (fun d t he => hengine (he ▸ hm) hP)
    fun _ => henv hm hP
  help {m s} hm hH hP := by
    obtain ⟨t, ht, hQ⟩ := hseq hP
    exact ⟨t, hH ▸ ht.turn, hQ⟩

/-- A stage that the engine carries on while `SEQ` polls. -/
theorem Driven.byEngine (hA : ∀ m, A m → isInternal m = true) (hpoll : ∀ {s}, P s → ∃ t, SeqStep s t ∧ P t)
    (hengine : ∀ {d s t}, A (.engine d) → P s → EngineEffect d s t → Q t)
    (henv : ∀ {m s t}, A m → P s → EnvTurn m s t → P t) : Driven A isEngine P Q where
  keep {m s} hm hne hP := by
    refine internal_turn (hA m hm) (fun _ => ?_) (fun d t he => absurd ⟨d, he⟩ hne) fun _ => henv hm hP
    obtain ⟨t, ht, hP⟩ := hpoll hP
    exact ⟨t, ht.turn, hP⟩
  help {m s} hm hH hP := by
    obtain ⟨d, rfl⟩ := hH
    exact ⟨_, rfl, hengine hm hP (engineStep_effect d s)⟩

/-- A stage on a busy bus that `E-FREE` carries on while `SEQ` polls (R117). -/
theorem Driven.byRelease (hA : ∀ m, A m → isInternal m = true ∧ m ≠ .envTake)
    (hpoll : ∀ {s}, P s → ∃ t, SeqStep s t ∧ P t) (hengine : ∀ {d s t}, A (.engine d) → P s → EngineEffect d s t → P t)
    (hfree : ∀ {s}, P s → Q (envFreeStep s)) :
    Driven A (· = .envFree) P Q where
  keep {m s} hm hne hP := by
    obtain ⟨hinternal, htake⟩ := hA m hm
    refine internal_turn hinternal (fun _ => ?_) (fun d t he => hengine (he ▸ hm) hP) fun t he => ?_
    · obtain ⟨t, ht, hP⟩ := hpoll hP
      exact ⟨t, ht.turn, hP⟩
    · rcases he with ⟨he, -⟩ | ⟨he, -⟩
      exacts [absurd he hne, absurd he htake]
  help {m s} hm hH hP := ⟨_, hH ▸ rfl, hfree hP⟩

end

/-- In an undisturbed schedule every turn is internal (R46). -/
theorem undisturbed.internal {σ : Nat → Move} (h : undisturbed σ) (n : Nat) : isInternal (σ n) = true := by
  obtain ⟨hreset, hhost⟩ := h n
  cases hm : σ n with
  | host w => exact absurd hm (hhost w)
  | reset => exact absurd hm hreset
  | seq | engine | envFree | envTake => rfl

end Sys2Proof.Machine
end

section
/-! `writeByte` inside its window answers under weak fairness (R119, R150). -/

namespace Sys2Proof.Machine

/-- A turn of the schedule; where `clean` holds, the engine meets no error. -/
def cleanTurn (clean : Prop) (m : Move) : Prop :=
  isInternal m = true ∧ (clean → ∀ d, m = .engine d → d.ans ≠ .arbLost ∧ d.ans ≠ .busErr)

/-- `writeByte` running at the label `l`, with `P` of its state; where `clean` holds, with its transaction open. -/
structure Writing (clean : Prop) (l : MicroPc) (P : State → Prop) (s : State) : Prop where
  pc : s.pc = l
  op : s.op = opcWriteByte
  enable : s.enable = true
  bus : clean → s.busState = .owner
  rest : P s

/-- `writeByte` has answered by the latched acknowledge bit, which is the current one. -/
structure Written (clean : Prop) (s : State) : Prop where
  pc : s.pc = .ready
  bus : clean → s.busState = .owner
  rsp : s.rsp = some (if s.rxack = true then 0x0200 else 0x0000)

section
variable {clean : Prop} {l : MicroPc} {P : State → Prop} {m : Move} {s t : State}

theorem Writing.of_sameOutsideBus {Q : State → Prop} (h : Writing clean l P s) (f : SameOutsideBus s t)
    (hbus : clean → t.busState = .owner) (hQ : Q t) : Writing clean l Q t :=
  ⟨f.pc.trans h.pc, f.op.trans h.op, f.enable.trans h.enable, hbus, hQ⟩

/-- With no phase posted the engine keeps the stage. -/
theorem Writing.engine {d : Draws} (h : Writing clean l P s) (hphase : s.phase = .none) (he : EngineEffect d s t) :
    Writing clean l P t := (he.eq_of_phase_none hphase).symm ▸ h

/-- The environment keeps a stage that does not speak of `BUSSTATE`. -/
theorem Writing.env (h : Writing clean l P s) (he : EnvTurn m s t) (hP : ∀ b, P { s with busState := b }) :
    Writing clean l P t := by
  obtain ⟨b, hb⟩ := env_eq_set_busState (env_of_move he)
  exact h.of_sameOutsideBus (env_sameOutsideBus (env_of_move he))
    (fun hclean => env_eq_of_owner (h.bus hclean) (env_of_move he) ▸ h.bus hclean) (hb ▸ hP b)

end

/-! ## Its stages -/

section
variable {clean : Prop}

theorem cleanTurn.internal {m : Move} (h : cleanTurn clean m) : isInternal m = true := h.1

/-- `X0`: inside the window `SEQ` posts the byte. -/
theorem driven_x0 : Driven (cleanTurn clean) (· = .seq)
    (Writing clean .x0 fun s => s.busState = .owner ∧ s.phase = .none ∧ s.dir = .write)
    (Writing clean .x1 fun s => s.wif = false ∧ ∃ b, s.phase = .tx b) :=
  .bySeq (fun _ => cleanTurn.internal)
    (fun ⟨hpc, hop, hen, hclean, hbus, hphase, hdir⟩ =>
      ⟨_, .write hop (.send hpc hen hbus hphase hdir), rfl, hop, hen, hclean, rfl, _, rfl⟩)
    (fun _ h he => h.engine h.rest.2.1 he)
    (fun _ h he => env_eq_of_owner h.rest.1 (env_of_move he) ▸ h)

/-- `X1` with the byte posted: the engine performs the phase, which sets the write flag (R113, R116). -/
theorem driven_x1_posted : Driven (cleanTurn clean) isEngine
    (Writing clean .x1 fun s => s.wif = false ∧ ∃ b, s.phase = .tx b)
    (Writing clean .x1 fun s => s.phase = .none ∧ s.wif = true) := by
  refine .byEngine (fun _ => cleanTurn.internal) (fun ⟨hpc, hop, hen, hclean, hif, hphase⟩ =>
    ⟨_, .write hop (.waits hpc hif), rfl, hop, hen, hclean, hif, hphase⟩) (fun hm h he => ?_)
    (fun _ h he => h.env he fun _ => h.rest)
  obtain ⟨hif, b, hphase⟩ := h.rest
  obtain ⟨hnone, hwif, hbus⟩ := he.performed_tx hphase h.enable
  refine h.of_sameOutsideBus he.sameOutsideBus (fun hclean => ?_) ⟨hnone, hwif⟩
  obtain ⟨hlost, herr⟩ := hm.2 hclean _ rfl
  exact (hbus.resolve_right (by simp [hlost, herr])).trans (h.bus hclean)

/-- `X1` after the phase: the poll passes. -/
theorem driven_x1_sent : Driven (cleanTurn clean) (· = .seq)
    (Writing clean .x1 fun s => s.phase = .none ∧ s.wif = true)
    (Writing clean .x2 fun s => s.phase = .none ∧ nakSet s.st = s.rxack) :=
  .bySeq (fun _ => cleanTurn.internal)
    (fun ⟨hpc, hop, hen, hclean, hphase, hif⟩ =>
      ⟨_, .write hop (.polled hpc hif), rfl, hop, hen, hclean, hphase, nakSet_statusByte _⟩)
    (fun _ h he => h.engine h.rest.1 he) (fun _ h he => h.env he fun _ => h.rest)

/-- `X2`: the answer. -/
theorem driven_x2 : Driven (cleanTurn clean) (· = .seq)
    (Writing clean .x2 fun s => s.phase = .none ∧ nakSet s.st = s.rxack) (Written clean) :=
  .bySeq (fun _ => cleanTurn.internal)
    (fun ⟨hpc, hop, _, hclean, _, hst⟩ => ⟨_, .write hop (.answer hpc), rfl, hclean, by simp [hst]⟩)
    (fun _ h he => h.engine h.rest.1 he) (fun _ h he => h.env he fun _ => h.rest)

end

/-- Settles O54: the four stages one after another, by fair turns of `SEQ` and the engine. -/
theorem writeByteAnswersUnderFairness : Obligations.WriteByteAnswersUnderFairness := by
  unfold Obligations.WriteByteAnswersUnderFairness
  intro σ s hund hseq hengine hpc hop hen hbus hphase hdir
  have hall : ∀ n, cleanTurn (envSingleMaster σ ∧ envNoBusError σ) (σ n) := fun n =>
    ⟨hund.internal n, fun ⟨hsingle, hnoerr⟩ d hd => ⟨((hsingle n).2 d hd).1, (hnoerr n d hd).1⟩⟩
  have hanswers : LeadsTo σ s _ (Written _) := (driven_x0.leadsTo hall hseq).trans <|
    (driven_x1_posted.leadsTo hall hengine).trans <| (driven_x1_sent.leadsTo hall hseq).trans <|
    driven_x2.leadsTo hall hseq
  obtain ⟨n, -, t, ht, hpc, hclean, hrsp⟩ := hanswers 0 ⟨s, rfl, hpc, hop, hen, fun _ => hbus, hbus, hphase, hdir⟩
  refine ⟨n, t, ht, hpc, ?_, fun hsingle hnoerr => ⟨hclean ⟨hsingle, hnoerr⟩, hrsp⟩⟩
  rw [hrsp]
  split <;> simp

end Sys2Proof.Machine
end

section
/-! The stages of an attempt of the start family, where no other master takes an idle bus (R119, R135 to R137). -/

namespace Sys2Proof.Machine

/-- A turn of the schedule where no other master takes an idle bus. -/
def untakenTurn (m : Move) : Prop := isInternal m = true ∧ m ≠ .envTake

theorem untakenTurn.internal {m : Move} (h : untakenTurn m) : isInternal m = true := h.1

theorem untakenTurn.env {m : Move} {s t : State} (h : untakenTurn m) (he : EnvTurn m s t) : t = envFreeStep s :=
  he.elim (·.2) fun he => absurd he.1 h.2

/-! ## The bus left to itself -/

/-- What the engine and `E-FREE` do of a bus with a stop posted at most: the stop, or the release (R115, R117). -/
inductive Settles (s : State) : State → Prop
  | same : Settles s s
  | stopped {l : List BusEvent} (hphase : s.phase = .stop) : Settles s { s with
      busState := .idle, phase := .none, busLog := s.busLog ++ l }
  | freed (hbus : s.busState = .busy) : Settles s { s with busState := .idle }

theorem EngineEffect.settles {d : Draws} {s t : State} (h : EngineEffect d s t) (hq : s.quiet = true) :
    Settles s t := by
  rcases h.of_quiet hq with rfl | ⟨hphase, -, l, rfl⟩
  exacts [.same, .stopped hphase]

theorem envFree_settles (s : State) : Settles s (envFreeStep s) := by
  rcases envFreeStep_cases s with ⟨hbus, he⟩ | ⟨-, he⟩ <;> rw [he]
  exacts [.freed hbus, .same]

section
variable {B : BusState → Prop} {s t : State}

/-- The phase that settles stays a stop or none. -/
theorem Settles.quiet (h : Settles s t) (hq : s.quiet = true) : t.quiet = true := by
  cases h with
  | same | freed => exact hq
  | stopped => rfl

/-- A condition that an idle bus meets stays met. -/
theorem Settles.bus (h : Settles s t) (hidle : B .idle) (hB : B s.busState) : B t.busState := by
  cases h with
  | same => exact hB
  | stopped | freed => exact hidle

theorem Settles.phase_none (h : Settles s t) (hphase : s.phase = .none) : t.phase = .none := by
  cases h with
  | same | freed => exact hphase
  | stopped => rfl

/-- An open transaction with no phase posted stays as it is. -/
theorem Settles.accepted (h : Settles s t) (ha : Accepted s) : Accepted t := by
  cases h with
  | same => exact ha
  | stopped hphase => cases hphase.symm.trans ha.phase
  | freed hbus => cases hbus.symm.trans ha.bus

/-- A declined address stays declined, on its way to an idle bus. -/
theorem Settles.declined (h : Settles s t) (hd : Declined s) : Declined t := by
  obtain ⟨hflag, hbad, hbus⟩ := hd
  cases h with
  | same => exact ⟨hflag, hbad, hbus⟩
  | stopped => exact ⟨hflag, hbad, .inr ⟨.inl rfl, rfl⟩⟩
  | freed h =>
    rcases hbus with ⟨hown, -⟩ | ⟨-, hphase⟩
    · cases h.symm.trans hown
    · exact ⟨hflag, hbad, .inr ⟨.inl rfl, hphase⟩⟩

end

/-- The bus is `b` with the phase `p` posted. -/
def onBus (b : BusState) (p : Phase) (s : State) : Prop := s.busState = b ∧ s.phase = p

/-- A stop phase ends in idle (R115). -/
theorem EngineEffect.onBus_of_stop {d : Draws} {s t : State} (h : EngineEffect d s t) (hen : s.enable = true)
    (hphase : s.phase = .stop) : onBus .idle .none t := by
  cases h with
  | waits hdis => cases (State.engineEnabled_of_stop hen hphase).symm.trans hdis
  | stopped => exact ⟨rfl, rfl⟩
  | lost _ hfails => rcases hfails with ⟨a, h, -⟩ | ⟨b, h, -⟩ | ⟨h, -⟩ <;> cases hphase.symm.trans h
  | addressedWrite h | addressedRead h | refused h | sent h | received h => cases hphase.symm.trans h

/-- The address phase's outcome: accepted, or not (R111). -/
def Outcome : Bool → State → Prop
  | true => Accepted
  | false => Declined

theorem Outcome.flag : ∀ {r : Bool} {s : State}, Outcome r s → (s.rif || s.wif) = true
  | true, _, h => Accepted.flag h
  | false, _, h => Declined.flag h

/-- A poll leaves the outcome as it is. -/
theorem Outcome.polled (l : MicroPc) : ∀ {r : Bool} {s : State}, Outcome r s → Outcome r (s.polled l)
  | true, _, h => { (h : Accepted _) with }
  | false, _, h => { (h : Declined _) with }

theorem Outcome.quiet : ∀ {r : Bool} {s : State}, Outcome r s → s.quiet = true
  | true, _, h => State.quiet_iff.mpr (.inl h.phase)
  | false, _, h => State.quiet_iff.mpr (h.bus.elim (fun h => .inr h.2) fun h => .inl h.2)

theorem Settles.outcome {s t : State} (h : Settles s t) : ∀ {r : Bool}, Outcome r s → Outcome r t
  | true => h.accepted
  | false => h.declined

/-- The tests of the status tell the outcome (R135). -/
theorem Outcome.tests : ∀ {r : Bool} {s : State}, Outcome r s → (errSet s.statusByte || nakSet s.statusByte) = !r
  | true, _, h => by simp [h.ok, h.ack]
  | false, _, h => by simpa using h.bad

/-! ## The stages -/

/-- The operation `c` of the start family to the address `a`, running at the label `l` with `P` of its state. -/
structure Starting (c a : Byte) (l : MicroPc) (P : State → Prop) (s : State) : Prop where
  pc : s.pc = l
  op : s.op = c
  arg : s.arg = a
  enable : s.enable = true
  rest : P s

/-- Before an attempt: a stop posted at most, on a bus of `B`. -/
def waiting (B : BusState → Prop) (s : State) : Prop := B s.busState ∧ s.quiet = true

/-- The flush done: no phase posted, on a bus of `B`. -/
def flushed (B : BusState → Prop) (s : State) : Prop := B s.busState ∧ s.phase = .none

/-- The address `a` posted and not yet sent, on a bus of `B`. -/
structure Posted (B : BusState → Prop) (a : Byte) (s : State) : Prop where
  bus : B s.busState
  phase : s.phase = .addr a
  noFlag : s.rif = false ∧ s.wif = false
  noError : s.arblost = false ∧ s.buserr = false

/-- Before the decision: the outcome `r`, and the latched tests that tell it. -/
def decided (r : Bool) (s : State) : Prop := Outcome r s ∧ (errSet s.st || nakSet s.st) = !r

/-- The address phase can be performed (R111). -/
def canSend (b : BusState) : Prop := b = .idle ∨ b = .owner

section
variable {c a : Byte} {l : MicroPc} {m : Move} {P Q R : State → Prop} {s t : State}

theorem Starting.of_sameOutsideBus (h : Starting c a l P s) (f : SameOutsideBus s t) (hQ : Q t) : Starting c a l Q t :=
  ⟨f.pc.trans h.pc, f.op.trans h.op, f.arg.trans h.arg, f.enable.trans h.enable, hQ⟩

theorem Starting.free (h : Starting c a l P s) (hm : untakenTurn m) (he : EnvTurn m s t) (hQ : Q (envFreeStep s)) :
    Starting c a l Q t := by
  obtain rfl := hm.env he
  exact h.of_sameOutsideBus (env_sameOutsideBus (.inl rfl)) hQ

/-- The address phase is accepted or declined by the draws (R111). -/
theorem Starting.perform {d : Draws} (h : Starting c a .s2 (Posted canSend a) s) (he : EngineEffect d s t) :
    (drawsAccept a d ∧ Starting c a .s2 (Outcome true) t) ∨
    (¬drawsAccept a d ∧ Starting c a .s2 (Outcome false) t) := by
  have hon := (State.engineEnabled_addr_iff h.rest.phase).mpr ⟨h.enable, h.rest.bus⟩
  exact (he.of_address h.rest.phase hon h.rest.noError).imp
    (And.imp_right (h.of_sameOutsideBus he.sameOutsideBus)) (And.imp_right (h.of_sameOutsideBus he.sameOutsideBus))

/-- A stage that is left to itself on the bus until `SEQ` carries it on. -/
theorem Starting.bySeq (hseq : ∀ {s}, Starting c a l P s → ∃ t, SeqStep s t ∧ R t)
    (hquiet : ∀ {s}, P s → s.quiet = true) (hkeep : ∀ {s t}, SameOutsideBus s t → Settles s t → P s → P t) :
    Driven untakenTurn (· = .seq) (Starting c a l P) R :=
  .bySeq (fun _ => untakenTurn.internal) hseq
    (fun _ h he => h.of_sameOutsideBus he.sameOutsideBus (hkeep he.sameOutsideBus (he.settles (hquiet h.rest)) h.rest))
    (fun hm h he => h.free hm he (hkeep (env_sameOutsideBus (.inl rfl)) (envFree_settles _) h.rest))

end

section
variable {c a : Byte} (hc : c = opcStart ∨ c = opcRepeatedStart ∨ c = opcStartWithRetry)
include hc

/-- `S0` (R135). -/
theorem driven_s0 {B : BusState → Prop} (hidle : B .idle) : Driven untakenTurn (· = .seq)
    (Starting c a .s0 (waiting B)) (Starting c a .s1 (flushed B)) :=
  Starting.bySeq (fun ⟨hpc, hop, harg, hen, hbus, _⟩ =>
      ⟨_, .start (by rwa [hop]) (.flush hpc hen), rfl, hop, harg, hen, hbus, rfl⟩)
    (·.2) fun _ h ⟨hbus, hq⟩ => ⟨h.bus hidle hbus, h.quiet hq⟩

/-- `S1` (R135). -/
theorem driven_s1 {B : BusState → Prop} (hidle : B .idle) : Driven untakenTurn (· = .seq)
    (Starting c a .s1 (flushed B)) (Starting c a .s2 (Posted B a)) :=
  Starting.bySeq (fun ⟨hpc, hop, harg, hen, hbus, _⟩ =>
      ⟨_, .start (by rwa [hop]) (.address hpc hen), rfl, hop, harg, hen,
        { bus := hbus, phase := congrArg Phase.addr harg, noFlag := ⟨rfl, rfl⟩, noError := ⟨rfl, rfl⟩ }⟩)
    (fun h => State.quiet_iff.mpr (.inl h.2)) fun _ h ⟨hbus, hphase⟩ => ⟨h.bus hidle hbus, h.phase_none hphase⟩

/-- `S2` with the address posted: the poll fails (R135). -/
theorem Starting.poll {B : BusState → Prop} {s : State} (h : Starting c a .s2 (Posted B a) s) :
    ∃ t, SeqStep s t ∧ Starting c a .s2 (Posted B a) t := by
  obtain ⟨hpc, hop, harg, hen, hposted⟩ := h
  exact ⟨_, .start (by rwa [hop]) (.waits hpc (by simp [hposted.noFlag])), rfl, hop, harg, hen, { hposted with }⟩

/-- `S2` with the address posted where it can be sent: the engine performs the phase (R111). -/
theorem driven_s2_posted : Driven untakenTurn isEngine (Starting c a .s2 (Posted canSend a))
    (fun t => ∃ r, Starting c a .s2 (Outcome r) t) := by
  refine .byEngine (fun _ => untakenTurn.internal) (Starting.poll hc) (fun _ h he => ?_) (fun {m s t} hm h he => ?_)
  · rcases h.perform he with ⟨-, h⟩ | ⟨-, h⟩
    exacts [⟨true, h⟩, ⟨false, h⟩]
  · have hbusy : s.busState ≠ .busy := by rcases h.rest.bus with hbus | hbus <;> simp [hbus]
    exact h.free hm he (by rw [envFreeStep_of_not_busy hbusy]; exact h.rest)

/-- `S2` after the phase: the poll passes (R135). -/
theorem driven_s2_performed (r : Bool) : Driven untakenTurn (· = .seq) (Starting c a .s2 (Outcome r))
    (Starting c a .s3 (decided r)) :=
  Starting.bySeq (fun ⟨hpc, hop, harg, hen, houtcome⟩ =>
      ⟨_, .start (by rwa [hop]) (.polled hpc houtcome.flag), rfl, hop, harg, hen, houtcome.polled _, houtcome.tests⟩)
    Outcome.quiet fun _ h => h.outcome

/-- `S3` after an ACK: the answer (R135). -/
theorem driven_s3_accepted : Driven untakenTurn (· = .seq) (Starting c a .s3 (decided true))
    (fun t => t.pc = .ready ∧ t.rsp = some 0x0000) :=
  Starting.bySeq (fun ⟨hpc, hop, _, _, _, hst⟩ => ⟨_, .start (by rwa [hop]) (.succeeds hpc hst), rfl, rfl⟩)
    (·.1.quiet) fun f h ⟨houtcome, hst⟩ => ⟨h.outcome houtcome, by rwa [f.st]⟩

/-- `S3` of an operation that answers, after a NAK or an error (R135). -/
theorem driven_s3_declined (hretry : c ≠ opcStartWithRetry) : Driven untakenTurn (· = .seq)
    (Starting c a .s3 (decided false)) (fun t => t.pc = .ready ∧ t.rsp = some 0x0100) :=
  Starting.bySeq (fun ⟨hpc, hop, _, _, _, hst⟩ =>
      ⟨_, .start (by rwa [hop]) (.fails hpc hst (by rwa [hop])), rfl, rfl⟩)
    (·.1.quiet) fun f h ⟨houtcome, hst⟩ => ⟨h.outcome houtcome, by rwa [f.st]⟩

end

end Sys2Proof.Machine
end

section
/-! `start`, `repeatedStart` and `stop` answer under weak fairness (R119, R168). -/

namespace Sys2Proof.Machine

/-- `stop` running at the label `l`, with `P` of its state. -/
structure Stopping (l : MicroPc) (P : State → Prop) (s : State) : Prop where
  pc : s.pc = l
  op : s.op = opcStop
  arg : s.arg = 0
  enable : s.enable = true
  rest : P s

section
variable {l : MicroPc} {P Q : State → Prop} {b : BusState} {m : Move} {s t : State}

theorem Stopping.of_sameOutsideBus (h : Stopping l P s) (f : SameOutsideBus s t) (hQ : Q t) : Stopping l Q t :=
  ⟨f.pc.trans h.pc, f.op.trans h.op, f.arg.trans h.arg, f.enable.trans h.enable, hQ⟩

/-- On a bus that is not busy no turn of the environment changes the stage. -/
theorem Stopping.env {p : Phase} (hb : b ≠ .busy) (h : Stopping l (onBus b p) s) (hm : untakenTurn m)
    (he : EnvTurn m s t) : Stopping l (onBus b p) t := by
  rw [hm.env he, envFreeStep_of_not_busy (h.rest.1.trans_ne hb)]
  exact h

/-- With no phase posted the engine does not change the stage. -/
theorem Stopping.engine {d : Draws} (h : Stopping l (onBus b .none) s) (he : EngineEffect d s t) :
    Stopping l (onBus b .none) t := (he.eq_of_phase_none h.rest.2).symm ▸ h

end

/-- `P0` inside the window (R145). -/
theorem driven_p0 : Driven untakenTurn (· = .seq) (Stopping .p0 (onBus .owner .none))
    (Stopping .p1 (onBus .owner .stop)) :=
  .bySeq (fun _ => untakenTurn.internal) (fun ⟨hpc, hop, harg, hen, hbus, hphase⟩ =>
      ⟨_, .stop hop harg (.stop hpc hen hbus hphase), rfl, hop, harg, hen, hbus, rfl⟩)
    (fun _ h he => h.engine he) (fun hm h he => h.env (by decide) hm he)

/-- `P1` with the stop posted: the engine performs it (R115). -/
theorem driven_p1_posted : Driven untakenTurn isEngine (Stopping .p1 (onBus .owner .stop))
    (Stopping .p1 (onBus .idle .none)) :=
  .byEngine (fun _ => untakenTurn.internal) (fun ⟨hpc, hop, harg, hen, hbus, hphase⟩ =>
      ⟨_, .stop hop harg (.waits hpc (by simp [hbus])), rfl, hop, harg, hen, hbus, hphase⟩)
    (fun _ h he => h.of_sameOutsideBus he.sameOutsideBus (he.onBus_of_stop h.enable h.rest.2))
    (fun hm h he => h.env (by decide) hm he)

/-- `P1` on the idle bus: the poll passes (R145). -/
theorem driven_p1_performed : Driven untakenTurn (· = .seq) (Stopping .p1 (onBus .idle .none))
    (Stopping .p2 (onBus .idle .none)) :=
  .bySeq (fun _ => untakenTurn.internal) (fun ⟨hpc, hop, harg, hen, hbus, hphase⟩ =>
      ⟨_, .stop hop harg (.polled hpc hbus), rfl, hop, harg, hen, hbus, hphase⟩)
    (fun _ h he => h.engine he) (fun hm h he => h.env (by decide) hm he)

/-- `P2`: the answer (R145). -/
theorem driven_p2 : Driven untakenTurn (· = .seq) (Stopping .p2 (onBus .idle .none))
    (fun t => t.pc = .ready ∧ t.rsp = some 0x0000) :=
  .bySeq (fun _ => untakenTurn.internal) (fun ⟨hpc, hop, harg, _, _⟩ => ⟨_, .stop hop harg (.answer hpc), rfl, rfl⟩)
    (fun _ h he => h.engine he) (fun hm h he => h.env (by decide) hm he)

/-- Settles O55: the stages of an attempt to its answer, and those of `stop`, by fair turns of `SEQ` and the engine. -/
theorem startAndStopAnswerUnderFairness : Obligations.StartAndStopAnswerUnderFairness := by
  unfold Obligations.StartAndStopAnswerUnderFairness
  intro σ s hund hseq hengine htake hen hstart
  have hall : ∀ n, untakenTurn (σ n) := fun n => ⟨hund.internal n, htake n⟩
  rcases hstart with ⟨hpc, hop, hbus, hphase⟩ | ⟨hpc, hop, harg, hbus, hphase⟩
  · have hc : s.op = opcStart ∨ s.op = opcRepeatedStart ∨ s.op = opcStartWithRetry := by tauto
    have hretry : s.op ≠ opcStartWithRetry := by rcases hop with hop | hop <;> rw [hop] <;> decide
    have hsent : LeadsTo σ s (Starting s.op s.arg .s0 (waiting canSend)) _ :=
      ((driven_s0 hc (.inl rfl)).leadsTo hall hseq).trans <|
      ((driven_s1 hc (.inl rfl)).leadsTo hall hseq).trans ((driven_s2_posted hc).leadsTo hall hengine)
    obtain ⟨n, -, t, ht, r, h⟩ := hsent 0 ⟨s, rfl, hpc, rfl, rfl, hen, hbus, State.quiet_iff.mpr hphase⟩
    obtain ⟨m, -, hdecided⟩ := (driven_s2_performed hc r).leadsTo hall hseq n ⟨t, ht, h⟩
    cases r with
    | true =>
      obtain ⟨k, -, u, hu, hready, hrsp⟩ := (driven_s3_accepted hc).leadsTo hall hseq m hdecided
      exact ⟨k, u, hu, hready, by simp [hrsp]⟩
    | false =>
      obtain ⟨k, -, u, hu, hready, hrsp⟩ := (driven_s3_declined hc hretry).leadsTo hall hseq m hdecided
      exact ⟨k, u, hu, hready, by simp [hrsp]⟩
  · have hstop : LeadsTo σ s _ _ := (driven_p0.leadsTo hall hseq).trans <|
      (driven_p1_posted.leadsTo hall hengine).trans <| (driven_p1_performed.leadsTo hall hseq).trans
      (driven_p2.leadsTo hall hseq)
    obtain ⟨n, -, t, ht, hready, hrsp⟩ := hstop 0 ⟨s, rfl, hpc, hop, harg, hen, hbus, hphase⟩
    exact ⟨n, t, ht, hready, by simp [hrsp]⟩

end Sys2Proof.Machine
end

section
/-! `startWithRetry` answers with success where the slave eventually becomes accessible (R119, R120, R137). -/

namespace Sys2Proof.Machine

/-- The bus state is known. -/
def isKnown (b : BusState) : Prop := b ≠ .unknown

theorem isKnown_idle : isKnown .idle := nofun

/-- `startWithRetry` has answered with success. -/
def Succeeded (s : State) : Prop := s.pc = .ready ∧ s.rsp = some 0x0000

/-- `startWithRetry` to the address `a` running at the label `l`, with `P` of its state. -/
abbrev Retrying : Byte → MicroPc → (State → Prop) → State → Prop := Starting opcStartWithRetry

/-- `startWithRetry` stands before an address phase that can be performed, or has succeeded. -/
def SendsOrSucceeded (a : Byte) (s : State) : Prop := Retrying a .s2 (Posted canSend a) s ∨ Succeeded s

/-- Where `startWithRetry` to the address `a` stands, from its first step to its answer. -/
inductive RetryStage (a : Byte) (s : State) : Prop
  | waiting (h : Retrying a .s0 (waiting isKnown) s)
  | flushed (h : Retrying a .s1 (flushed isKnown) s)
  | blocked (h : Retrying a .s2 (Posted (· = .busy) a) s)
  | posted (h : Retrying a .s2 (Posted canSend a) s)
  | performed {r : Bool} (h : Retrying a .s2 (Outcome r) s)
  | decided {r : Bool} (h : Retrying a .s3 (decided r) s)
  | stopping (h : Retrying a .w4 (onBus .owner .stop) s)
  | taken (h : Retrying a .w4 (onBus .busy .none) s)
  | released (h : Retrying a .w4 (onBus .idle .none) s)

/-! ## The turns that carry it on -/

section
variable {a : Byte} {s : State}

theorem retry_mem_family : opcStartWithRetry = opcStart ∨ opcStartWithRetry = opcRepeatedStart ∨
    opcStartWithRetry = opcStartWithRetry := .inr (.inr rfl)

/-- On a known bus the address posted can be sent, or the bus is busy (R111). -/
theorem Starting.blocked_or_canSend (h : Retrying a .s2 (Posted isKnown a) s) :
    Retrying a .s2 (Posted (· = .busy) a) s ∨ Retrying a .s2 (Posted canSend a) s := by
  have hknown : s.busState ≠ .unknown := h.rest.bus
  cases hbus : s.busState with
  | unknown => exact absurd hbus hknown
  | busy => exact .inl { h with rest := { h.rest with bus := hbus } }
  | idle => exact .inr { h with rest := { h.rest with bus := .inl hbus } }
  | owner => exact .inr { h with rest := { h.rest with bus := .inr hbus } }

/-- `S1`: the address posted, on a bus that is busy or not (R135). -/
theorem driven_s1_retry : Driven untakenTurn (· = .seq) (Retrying a .s1 (flushed isKnown)) fun t =>
    Retrying a .s2 (Posted (· = .busy) a) t ∨ Retrying a .s2 (Posted canSend a) t :=
  (driven_s1 retry_mem_family isKnown_idle).mono_right fun _ => Starting.blocked_or_canSend

/-- An address posted on a busy bus waits (R111). -/
theorem EngineEffect.eq_of_blocked {d : Draws} {t : State} (h : EngineEffect d s t) (hphase : s.phase = .addr a)
    (hbusy : s.busState = .busy) : t = s := by
  have hno : ¬(s.busState = .idle ∨ s.busState = .owner) := by simp [hbusy]
  cases h with
  | waits => rfl
  | addressedWrite _ _ hbus | addressedRead _ _ hbus | refused _ _ hbus => exact absurd hbus hno
  | lost _ hfails =>
    rcases hfails with ⟨b, -, hbus, -⟩ | ⟨b, h, -⟩ | ⟨h, -⟩
    · exact absurd hbus hno
    all_goals cases hphase.symm.trans h
  | sent h | received h | stopped h => cases hphase.symm.trans h

/-- `S2` with the address posted on a busy bus: the release lets it be sent (R111, R117). -/
theorem driven_s2_blocked : Driven untakenTurn (· = .envFree) (Retrying a .s2 (Posted (· = .busy) a))
    (Retrying a .s2 (Posted canSend a)) := by
  refine .byRelease (fun _ => id) (Starting.poll retry_mem_family)
    (fun _ h he => (he.eq_of_blocked h.rest.phase h.rest.bus).symm ▸ h) (fun {s} h => ?_)
  rw [envFreeStep_of_busy h.rest.bus]
  exact { h with rest := { h.rest with bus := .inl rfl } }

/-- `S3` after a NAK or an error: the wait begins, on the bus that the outcome left (R137). -/
theorem driven_s3_retries : Driven untakenTurn (· = .seq) (Retrying a .s3 (decided false)) fun t =>
    Retrying a .w4 (onBus .owner .stop) t ∨ Retrying a .w4 (onBus .busy .none) t ∨
      Retrying a .w4 (onBus .idle .none) t := by
  refine Starting.bySeq (fun {s} ⟨hpc, hop, harg, hen, houtcome, hst⟩ =>
    ⟨_, .start (by rw [hop]; exact retry_mem_family) (.retries hpc hst hop), ?_⟩)
    (·.1.quiet) fun f h ⟨houtcome, hst⟩ => ⟨h.outcome houtcome, by rwa [f.st]⟩
  have hat : ∀ {P : State → Prop}, P { s with pc := .w4 } → Retrying a .w4 P { s with pc := .w4 } := fun hP =>
    ⟨rfl, hop, harg, hen, hP⟩
  rcases houtcome.bus with ⟨hbus, hphase⟩ | ⟨hbus | hbus, hphase⟩
  exacts [.inl (hat ⟨hbus, hphase⟩), .inr (.inr (hat ⟨hbus, hphase⟩)), .inr (.inl (hat ⟨hbus, hphase⟩))]

/-- `W4` off an idle bus polls again (R137). -/
theorem Starting.wait {b : BusState} {p : Phase} (hb : b ≠ .idle) (h : Retrying a .w4 (onBus b p) s) :
    ∃ t, SeqStep s t ∧ Retrying a .w4 (onBus b p) t := by
  obtain ⟨hpc, hop, harg, hen, hbus, hphase⟩ := h
  exact ⟨_, .wait hop (.waits hpc (hbus.trans_ne hb)), rfl, hop, harg, hen, hbus, hphase⟩

/-- `W4` with the automatic stop posted: the engine performs it (R115). -/
theorem driven_w4_stopping : Driven untakenTurn isEngine (Retrying a .w4 (onBus .owner .stop))
    (Retrying a .w4 (onBus .idle .none)) :=
  .byEngine (fun _ => untakenTurn.internal) (Starting.wait (by decide))
    (fun _ h he => h.of_sameOutsideBus he.sameOutsideBus (he.onBus_of_stop h.enable h.rest.2))
    (fun hm h he => h.free hm he (by rw [envFreeStep_of_not_busy (by simp [h.rest.1])]; exact h.rest))

/-- `W4` on a busy bus: the release ends the wait (R117). -/
theorem driven_w4_taken : Driven untakenTurn (· = .envFree) (Retrying a .w4 (onBus .busy .none))
    (Retrying a .w4 (onBus .idle .none)) := by
  refine .byRelease (fun _ => id) (Starting.wait (by decide)) (fun _ h he => (he.eq_of_phase_none h.rest.2).symm ▸ h)
    (fun {s} h => ?_)
  rw [envFreeStep_of_busy h.rest.1]
  exact { h with rest := ⟨rfl, h.rest.2⟩ }

/-- `W4` on an idle bus: the next attempt (R137). -/
theorem driven_w4_released : Driven untakenTurn (· = .seq) (Retrying a .w4 (onBus .idle .none))
    (Retrying a .s0 (waiting isKnown)) :=
  .bySeq (fun _ => untakenTurn.internal) (fun ⟨hpc, hop, harg, hen, hbus, hphase⟩ =>
      ⟨_, .wait hop (.again hpc hbus), rfl, hop, harg, hen, hbus.trans_ne (by decide),
        State.quiet_iff.mpr (.inl hphase)⟩)
    (fun _ h he => (he.eq_of_phase_none h.rest.2).symm ▸ h)
    (fun hm h he => h.free hm he (by rw [envFreeStep_of_not_busy (by simp [h.rest.1])]; exact h.rest))

end

/-! ## Every turn keeps a stage, and every stage comes to an address phase -/

/-- Every turn leads from a stage to a stage or to success. -/
theorem RetryStage.turn {a : Byte} {m : Move} {s : State} (hm : untakenTurn m) (h : RetryStage a s) :
    ∃ t, runMove m s = .next t ∧ (RetryStage a t ∨ Succeeded t) := by
  have hc := retry_mem_family
  cases h with
  | waiting h => exact (driven_s0 hc isKnown_idle).turn (fun _ => .inl ∘ .waiting) (fun _ => .inl ∘ .flushed) hm h
  | flushed h =>
    exact driven_s1_retry.turn (fun _ => .inl ∘ .flushed) (fun _ => .inl ∘ fun h => h.elim .blocked .posted) hm h
  | blocked h => exact driven_s2_blocked.turn (fun _ => .inl ∘ .blocked) (fun _ => .inl ∘ .posted) hm h
  | posted h => exact (driven_s2_posted hc).turn (fun _ => .inl ∘ .posted) (fun _ ⟨_, h⟩ => .inl (.performed h)) hm h
  | performed h => exact (driven_s2_performed hc _).turn (fun _ => .inl ∘ .performed) (fun _ => .inl ∘ .decided) hm h
  | @decided r h => cases r with
    | true => exact (driven_s3_accepted hc).turn (fun _ => .inl ∘ .decided) (fun _ => .inr) hm h
    | false =>
      exact driven_s3_retries.turn (fun _ => .inl ∘ .decided)
        (fun _ => .inl ∘ fun h => h.elim .stopping fun h => h.elim .taken .released) hm h
  | stopping h => exact driven_w4_stopping.turn (fun _ => .inl ∘ .stopping) (fun _ => .inl ∘ .released) hm h
  | taken h => exact driven_w4_taken.turn (fun _ => .inl ∘ .taken) (fun _ => .inl ∘ .released) hm h
  | released h => exact driven_w4_released.turn (fun _ => .inl ∘ .released) (fun _ => .inl ∘ .waiting) hm h

/-- An address phase that can be performed is `startWithRetry`'s own. -/
theorem RetryStage.posted_of_engineEnabled {a b : Byte} {s : State} (h : RetryStage a s) (hphase : s.phase = .addr b)
    (hon : s.engineEnabled = true) : Retrying a .s2 (Posted canSend a) s := by
  have hbus := ((State.engineEnabled_addr_iff hphase).mp hon).2
  have hloud : s.quiet ≠ true := by simp [State.quiet, hphase]
  cases h with
  | posted h => exact h
  | blocked h => simp [h.rest.bus] at hbus
  | waiting h => exact absurd h.rest.2 hloud
  | performed h => exact absurd h.rest.quiet hloud
  | decided h => exact absurd h.rest.1.quiet hloud
  | flushed h | stopping h | taken h | released h => cases hphase.symm.trans h.rest.2

section
variable {σ : Nat → Move} {a : Byte} {s : State}

/-- The premises on the schedule: no other master takes the bus, and the three agents are weakly fair (R119, R120). -/
structure FairForRetry (σ : Nat → Move) : Prop where
  untaken : ∀ n, untakenTurn (σ n)
  seq : fairSeq σ
  engine : fairEngine σ
  release : envReleases σ

/-- After an accepted address `startWithRetry` answers (R137). -/
theorem FairForRetry.leadsTo_succeeded (hf : FairForRetry σ) :
    LeadsTo σ s (Retrying a .s2 (Outcome true)) Succeeded :=
  ((driven_s2_performed retry_mem_family true).leadsTo hf.untaken hf.seq).trans
    ((driven_s3_accepted retry_mem_family).leadsTo hf.untaken hf.seq)

/-- Every stage comes to an address phase that can be performed, or to success. -/
theorem FairForRetry.leadsTo_sending (hf : FairForRetry σ) : LeadsTo σ s (RetryStage a) (SendsOrSucceeded a) := by
  have hc := retry_mem_family
  obtain ⟨hall, hseq, hengine, hrelease⟩ := hf
  have hposted : LeadsTo σ s (Retrying a .s2 (Posted canSend a)) (SendsOrSucceeded a) := .of_imp fun _ => .inl
  have hblocked : LeadsTo σ s _ (SendsOrSucceeded a) := (driven_s2_blocked.leadsTo hall hrelease).trans hposted
  have hflushed : LeadsTo σ s _ (SendsOrSucceeded a) := (driven_s1_retry.leadsTo hall hseq).trans (hblocked.or hposted)
  have hwaiting : LeadsTo σ s _ (SendsOrSucceeded a) := ((driven_s0 hc isKnown_idle).leadsTo hall hseq).trans hflushed
  have hreleased : LeadsTo σ s _ (SendsOrSucceeded a) := (driven_w4_released.leadsTo hall hseq).trans hwaiting
  have htaken : LeadsTo σ s _ (SendsOrSucceeded a) := (driven_w4_taken.leadsTo hall hrelease).trans hreleased
  have hstopping : LeadsTo σ s _ (SendsOrSucceeded a) := (driven_w4_stopping.leadsTo hall hengine).trans hreleased
  have hdecided : ∀ r, LeadsTo σ s (Retrying a .s3 (decided r)) (SendsOrSucceeded a) := fun r => by
    cases r with
    | true => exact ((driven_s3_accepted hc).leadsTo hall hseq).trans (.of_imp fun _ => .inr)
    | false => exact (driven_s3_retries.leadsTo hall hseq).trans (hstopping.or (htaken.or hreleased))
  have hperformed : ∀ r, LeadsTo σ s (Retrying a .s2 (Outcome r)) (SendsOrSucceeded a) := fun r =>
    ((driven_s2_performed hc r).leadsTo hall hseq).trans (hdecided r)
  rintro n ⟨t, ht, h⟩
  cases h with
  | waiting h => exact hwaiting n ⟨t, ht, h⟩
  | flushed h => exact hflushed n ⟨t, ht, h⟩
  | blocked h => exact hblocked n ⟨t, ht, h⟩
  | posted h => exact hposted n ⟨t, ht, h⟩
  | performed h => exact hperformed _ n ⟨t, ht, h⟩
  | decided h => exact hdecided _ n ⟨t, ht, h⟩
  | stopping h => exact hstopping n ⟨t, ht, h⟩
  | taken h => exact htaken n ⟨t, ht, h⟩
  | released h => exact hreleased n ⟨t, ht, h⟩

/-- Unless it succeeds, `startWithRetry` stays in its stages. -/
theorem FairForRetry.reaches_stage (hf : FairForRetry σ) (hnever : ∀ n, ¬Reaches σ s n Succeeded)
    (hs : RetryStage a s) :
    ∀ n, Reaches σ s n (RetryStage a)
  | 0 => ⟨s, rfl, hs⟩
  | n + 1 => by
    obtain ⟨t, ht, h | h⟩ := (hf.reaches_stage hnever hs n).next fun t => RetryStage.turn (hf.untaken n)
    · exact ⟨t, ht, h⟩
    · exact absurd ⟨t, ht, h⟩ (hnever (n + 1))

/-- Unless it succeeds, `startWithRetry` performs address phases for ever. -/
theorem FairForRetry.recurs (hf : FairForRetry σ) (hnever : ∀ n, ¬Reaches σ s n Succeeded) (hs : RetryStage a s)
    (n : Nat) : ∃ k d, n ≤ k ∧ addressPhaseAt σ s a k d := by
  obtain ⟨m, hnm, t, ht, h | h⟩ := hf.leadsTo_sending n (hf.reaches_stage hnever hs n)
  · obtain ⟨k, hmk, ⟨d, hk⟩, u, hu, h⟩ := (driven_s2_posted retry_mem_family).until hf.untaken hf.engine ⟨t, ht, h⟩
    exact ⟨k, d, hnm.trans hmk, hk, u, hu, (State.engineEnabled_addr_iff h.rest.phase).mpr ⟨h.enable, h.rest.bus⟩,
      h.rest.phase⟩
  · exact absurd ⟨t, ht, h⟩ (hnever m)

/-- An address phase answered by an accepting draw leads to success (R137). -/
theorem FairForRetry.succeeds_of_accept (hf : FairForRetry σ) {k : Nat} {d : Draws}
    (hstage : Reaches σ s k (RetryStage a)) (hat : addressPhaseAt σ s a k d) (hacc : drawsAccept a d) :
    ∃ n, Reaches σ s n Succeeded := by
  obtain ⟨hk, t, ht, hon, hphase⟩ := hat
  obtain ⟨u, hu, h⟩ := hstage
  cases ht.symm.trans hu
  have hnext : Retrying a .s2 (Outcome true) (engineStep d t) :=
    (((h.posted_of_engineEnabled hphase hon).perform (engineStep_effect d t)).resolve_right fun hno => hno.1 hacc).2
  obtain ⟨n, -, hn⟩ := hf.leadsTo_succeeded (k + 1)
    ⟨_, runStream_succ_eq_next.mpr ⟨t, ht, by rw [hk]; rfl⟩, hnext⟩
  exact ⟨n, hn⟩

end

/-- Settles O56: were there no success, address phases would recur, one would be accepted, and success would follow. -/
theorem retryAnswersUnderFairness : Obligations.RetryAnswersUnderFairness := by
  unfold Obligations.RetryAnswersUnderFairness
  intro σ a s hund hseq hengine htake hrelease hacks hpc hop harg hen hbus hphase
  have hf : FairForRetry σ := ⟨fun n => ⟨hund.internal n, htake n⟩, hseq, hengine, hrelease⟩
  have hs : RetryStage a s := .waiting ⟨hpc, hop, harg, hen, hbus, State.quiet_iff.mpr hphase⟩
  suffices h : ∃ n, Reaches σ s n Succeeded by
    obtain ⟨n, t, ht, hsucceeded⟩ := h
    exact ⟨n, t, ht, hsucceeded⟩
  by_contra hno
  have hnever : ∀ n, ¬Reaches σ s n Succeeded := fun n h => hno ⟨n, h⟩
  obtain ⟨k, d, hat, hacc⟩ := hacks (hf.recurs hnever hs)
  exact hno (hf.succeeds_of_accept (hf.reaches_stage hnever hs k) hat hacc)

end Sys2Proof.Machine
end
